-- ==== Sys2Proof/Word.lean ====
section
/-!
DEFINITION. Word types of the G640 model: the bytes and words that cross the part's lines and the
binary counts the manual gives a width in bits.
-/

namespace Sys2Proof

/-- One byte of a telegram, a frame or a request; also every number 0–255 that the manual reduces
mod 256 (sequences, downlink sequences, generations, delivery sequences: 00_scope.md section 7). -/
abbrev Byte := BitVec 8

/-- A 16-bit word: sync words, check polynomials, check registers. -/
abbrev Word16 := BitVec 16

/-- A 24-bit station ID (00_scope.md section 5). -/
abbrev StationId := BitVec 24

/-- Part time: a 32-bit count of milliseconds that wraps (R191). -/
abbrev PartTime := BitVec 32

end Sys2Proof
end

