-- ==== Sys2Proof/Syntax.lean ====
section
/-!
DEFINITION. The commands of the G640, one constructor per row of spec/opcode_table.json.

The part is a block: its commands are the events that reach it (spec/95_what_each_step_holds.md).
* Line events of the two field receivers, given either as what the receiver's decoding came to
  (PREAMBLE_LOST, SYNC_MISSING, RECEIVER_ERROR, COPY) or cell by cell and edge by edge (CELL_DECODED).
* Frames received on the trunk line: an ACK, a REQUEST, a frame of another kind, a content that is
  discarded, a line error.
* The host's nineteen requests, each being the arrival of the REQUEST frame whose body R203 lays out
  (log entry 3).
* Deadlines, ends of transmissions and frames, and the advance of part time (R191, R192).
* The beginning and the end of a full reset (R196, R197).
-/

namespace Sys2Proof

/-- The two field receive channels: A is FRXA and FRA, B is FRXB and FRB. -/
inductive Channel where
  | A
  | B
  deriving DecidableEq, Repr

/-- The four receiver errors of BODY (R33, R34, R35, R41). -/
inductive BodyError where
  | codeViolation
  | length
  | check
  | format
  deriving DecidableEq, Repr

/-- What a CELL_DECODED command brings to a receiver.

`decided` is a cell whose bit and class (clean, or soft when `soft`) the line timing has already
settled, with the observed place `time` of its reference edge. `edge` is one edge of the field line,
rising (space to mark) or falling, and `quiet` says that the line has shown no further edge up to and
including `time`; from these two the model itself places windows, bits and classes (R26–R30).
Every `time` is a timestamp in REFCLK periods (R195). `refclk` says that REFCLK itself has stopped or runs again
(R190); it concerns the whole part, whatever the channel. DESIGN CHOICE (log entry 24). -/
inductive CellInput where
  | decided (bit soft : Bool) (time : Nat)
  | edge (rising : Bool) (time : Nat)
  | quiet (time : Nat)
  | refclk (running : Bool)
  deriving DecidableEq, Repr

/-- A copy handed over by a receiver, with the fields of R36. CONFIRM_PRESENT is set exactly when
`confirm` is present. -/
structure Copy where
  channel : Channel
  station : StationId
  sequence : Byte
  listen : Bool
  urgent : Bool
  /-- copies remaining, r (R199) -/
  remaining : Fin 8
  confirm : Option Byte
  payload : List Byte
  /-- the received 16-bit check; the repeat filter does not compare it (R46) -/
  check : Word16
  endTime : PartTime
  margin : Fin 16
  deriving DecidableEq, Repr

/-- The faults of a received trunk content other than a line error (R148). A bad escape is told apart
by the byte after 0xA6: a delimiter (which begins a new content) or any other byte. -/
inductive ContentFault where
  | badEscape
  | badEscapeDelimiter
  | oversize
  | runt
  | badCheck
  deriving DecidableEq, Repr

/-- What a DISCARDED_CONTENT command brings: the fault that the receive assembler found, the bytes that arrive
on TRXD, which the model assembles and judges itself (R147, R148), or the levels of TRXD, from which the model
samples the bits of each byte itself and finds the line errors (R146, R195).

`edge` is one edge of TRXD, rising (space to mark) or falling, and `quiet` says that the line has shown no
further edge up to and including `time`. Every `time` is a timestamp in REFCLK periods. -/
inductive TrunkContent where
  | fault (f : ContentFault)
  | bytes (bs : List Byte)
  | edge (rising : Bool) (time : Nat)
  | quiet (time : Nat)
  deriving DecidableEq, Repr

/-- The commands of the G640: one constructor per row of spec/opcode_table.json, in the table's order. -/
inductive Instr where
  /-- FULL_RESET (R196): power-up or RESETn low begins to hold the part in full reset. -/
  | fullReset
  /-- FULL_RESET_END (R197): the full reset ends with these levels on RSEL1 and RSEL0. -/
  | fullResetEnd (rsel1 rsel0 : Bool)
  /-- PREAMBLE_LOST (R31): the channel's receiver loses a candidate cell or a preamble, or meets a
  code violation in SYNC. -/
  | preambleLost (ch : Channel)
  /-- SYNC_MISSING (R32): the channel's sync count reaches 32 without a match. -/
  | syncMissing (ch : Channel)
  /-- RECEIVER_ERROR (R41): the channel's receiver declares an error in BODY. -/
  | receiverError (ch : Channel) (e : BodyError)
  /-- COPY (R47): a copy is handed over to the repeat filter. -/
  | copy (c : Copy)
  /-- GATHER_DEADLINE (R56) of the record with this station ID and sequence. -/
  | gatherDeadline (station : StationId) (sequence : Byte)
  /-- SETTLE_DEADLINE (R57) of the record with this station ID and sequence. -/
  | settleDeadline (station : StationId) (sequence : Byte)
  /-- WINDOW_OPEN (R78) of a slot. -/
  | windowOpen (slot : Fin 16)
  /-- WINDOW_CLOSE (R79) of a slot. -/
  | windowClose (slot : Fin 16)
  /-- LIFETIME_DEADLINE (R83) of a slot. -/
  | lifetimeDeadline (slot : Fin 16)
  /-- TRANSMISSION_END (R105): the last check cell has been sent. -/
  | transmissionEnd
  /-- TEST_END (R107): the carrier test reaches its test end. -/
  | testEnd
  /-- STOPPING_END (R110): the cell in progress ends in STOPPING. -/
  | stoppingEnd
  /-- ACK (R124): an ACK frame with this next-expected value arrives. -/
  | ack (nextExpected : Byte)
  /-- RETRANSMIT_TIMER_EXPIRY (R127). -/
  | retransmitTimerExpiry
  /-- FRAME_BOUNDARY (R162): the closing delimiter of the frame on TTXD has left the line. -/
  | frameBoundary
  /-- LINE_ERROR (R146) on TRXD. -/
  | lineError
  /-- DISCARDED_CONTENT (R148). -/
  | discardedContent (c : TrunkContent)
  /-- BAD_KIND (R149): a frame with this kind, tag and body is received. -/
  | badKind (kind tag : Byte) (body : List Byte)
  /-- REQUEST_FRAME (R150): a REQUEST frame with this tag and body arrives. -/
  | requestFrame (tag : Byte) (body : List Byte)
  /-- IDLE_DEADLINE (R160). -/
  | idleDeadline
  /-- RENOTIFY_DEADLINE (R138). -/
  | renotifyDeadline
  /-- PER_SECOND_BOUNDARY (R194). -/
  | perSecondBoundary
  /-- DUPLICATE (R152): a REQUEST frame that repeats a tag and request code arrives. -/
  | duplicate (tag code : Byte) (args : List Byte)
  /-- UNDEFINED_REQUEST (R151): a REQUEST frame whose body holds no request code, or one the part does
  not define, arrives. -/
  | undefinedRequest (tag : Byte) (body : List Byte)
  /-- OPEN-SESSION (R156). -/
  | openSession (tag mode : Byte)
  /-- CLOSE-SESSION (R170). -/
  | closeSession (tag : Byte)
  /-- GET-STATUS (R171). -/
  | getStatus (tag : Byte)
  /-- WARM-RESTART (R172). -/
  | warmRestart (tag : Byte)
  /-- SET-PARAMETER (R175): the value in its bytes, most significant first. -/
  | setParameter (tag number : Byte) (value : List Byte)
  /-- GET-PARAMETER (R176). -/
  | getParameter (tag number : Byte)
  /-- PUT-STATION (R17). -/
  | putStation (tag : Byte) (station : StationId) (mode : Byte) (gatherTime repeatWindow : Word16)
      (replyEnabled replyDelay copySpacing windowWidth : Byte)
  /-- DROP-STATION (R20). -/
  | dropStation (tag : Byte) (station : StationId)
  /-- GET-STATION (R179). -/
  | getStation (tag : Byte) (station : StationId)
  /-- LIST-STATIONS (R180). -/
  | listStations (tag start : Byte)
  /-- QUEUE-DOWNLINK (R73). -/
  | queueDownlink (tag : Byte) (station : StationId) (hostTag attempts : Byte) (lifetime : Word16)
      (payload : List Byte)
  /-- CANCEL-DOWNLINK (R85). -/
  | cancelDownlink (tag slot generation : Byte)
  /-- GET-DOWNLINK (R90). -/
  | getDownlink (tag slot generation : Byte)
  /-- GET-CAUSES (R184). -/
  | getCauses (tag : Byte)
  /-- CLEAR-CAUSE (R140). -/
  | clearCause (tag number : Byte)
  /-- GET-COUNTERS (R185). -/
  | getCounters (tag group : Byte)
  /-- CLEAR-COUNTERS (R186). -/
  | clearCounters (tag group : Byte)
  /-- CARRIER-TEST (R106): the duration in ms. -/
  | carrierTest (tag : Byte) (duration : Word16)
  /-- CARRIER-STOP (R107). -/
  | carrierStop (tag : Byte)
  /-- CELL_DECODED (R30). -/
  | cellDecoded (ch : Channel) (input : CellInput)
  /-- PART_TIME_ADVANCE (R191). -/
  | partTimeAdvance
  deriving DecidableEq, Repr

end Sys2Proof
end

