-- ==== Sys2Proof/Decode.lean ====
section
/-!
DEFINITION. Reading a command from a word of the opcode table. Every row of spec/opcode_table.json has
an empty list of bits ("fields": []), so no word spells a command.
-/

namespace Sys2Proof

/-- The command that a word spells by the table's bits. The table gives no row any bits, so there is
none (log entry 15). -/
def decodeTableWord (_nbits _w : Nat) : Option Instr := none

end Sys2Proof
end

