-- ==== Sys2Proof/Config.lean ====
section
/-!
DEFINITION. What the spec leaves to an implementation, both in R195: how a place that stands exactly half way
between two REFCLK periods is rounded (log entry 10), and whether a sample of TRXD sees an edge in its own
period (log entry 22). Every other number of the manual is fixed and stands where it is used.
-/

namespace Sys2Proof

/-- R195 rounds an expected position, a band limit or a sampling point `num / den` to the nearest REFCLK period and does
not say which period is taken when two are equally near. This is that choice: a free value. DESIGN
CHOICE (log entry 10). -/
opaque Config.tieRoundsUp (num den : Nat) : Bool

/-- R195 samples TRXD at the middle of each bit and does not say which level a sample takes when the line
changes in the period of the sample, `time`. This is that choice: a free value. DESIGN CHOICE (log
entry 22). -/
opaque Config.sampleSeesEdge (time : Nat) : Bool

end Sys2Proof
end

