-- ==== Sys2Proof/Machine/Blocks.lean ====
section
/-!
DEFINITION. The state of each of the eleven blocks of the part (00_scope.md section 2), as plain data.
A field that a rule says is present only in some state is a field of that state alone, so that a value
the rules exclude cannot be written. Counts and durations are natural numbers; bits are bit vectors.
-/

namespace Sys2Proof.Machine

/-! ## Time base (TBS) -/

/-- The time base: part time (R191); the levels of RSEL1 and RSEL0 read at the end of the last full
reset (R189; high is `true`), from which the reference clock and the trunk rate follow; whether REFCLK runs (R190);
and, while a full reset that has been released waits for REFCLK to start, the levels that it then takes from RSEL1
and RSEL0 (R197). -/
structure TimeBase where
  partTime : PartTime
  rsel1 : Bool
  rsel0 : Bool
  refclkRunning : Bool
  release : Option (Bool × Bool)
  deriving DecidableEq, Repr

/-! ## Field receivers (FRA, FRB) -/

/-- The three line codes of the receivers (R24). -/
inductive LineCode where
  | manchester
  | biphaseMark
  | pulseWidth
  deriving DecidableEq, Repr

/-- The receive profile (R24). -/
structure RxProfile where
  code : LineCode
  bitTimeUs : Nat
  preambleMin : Nat
  sync : Word16
  checkPoly : Word16
  checkInit : Word16
  maxLength : Nat
  enableA : Bool
  enableB : Bool
  deriving DecidableEq, Repr

/-- The profile snapshot of one receiver (R25). -/
structure RxSnapshot where
  code : LineCode
  bitTimeUs : Nat
  preambleMin : Nat
  sync : Word16
  checkPoly : Word16
  checkInit : Word16
  maxLength : Nat
  deriving DecidableEq, Repr

/-- A candidate cell anchored in HUNT and not yet decided: the timestamp of its anchoring edge and the
code and bit time it was anchored with (R25, R30). -/
structure Candidate where
  anchor : Nat
  code : LineCode
  bitTimeUs : Nat
  deriving DecidableEq, Repr

/-- What has been seen of the cell after the cell reference: nothing; the optional boundary edge of
MANCHESTER (R27); or the edge that starts the cell under BIPHASE_MARK or PULSE_WIDTH, with its
timestamp and whether it was soft (R28, R29). -/
inductive CellProgress where
  | fresh
  | boundarySeen
  | started (time : Nat) (soft : Bool)
  deriving DecidableEq, Repr

/-- What a receiver holds in each of PREAMBLE, SYNC and BODY: its snapshot, its cell reference, what it
has seen of the next cell, and its soft-cell count (section 2.3). -/
structure Tracking where
  snap : RxSnapshot
  cellRef : Nat
  progress : CellProgress
  softCells : Nat
  deriving DecidableEq, Repr

/-- The receiver states of section 2.3 with what each holds. In SYNC, `bits` is the sync window with the
oldest bit most significant and `softs` tells, oldest first, which of its cells were soft. In BODY,
`bytes` are the bytes completed so far, the length byte first, and `cur` holds the `nbits` bits of the
byte in progress. -/
inductive RxState where
  | disabled
  | hunt (candidate : Option Candidate)
  | preamble (t : Tracking) (count : Nat)
  | sync (t : Tracking) (bits : Word16) (softs : List Bool) (count : Nat)
  | body (t : Tracking) (bytes : List Byte) (cur : Byte) (nbits : Nat) (checkReg : Word16)
  deriving DecidableEq, Repr

/-- The eight counters of a channel, in the order of R40. -/
structure RxCounters where
  copiesDelivered : Nat
  preambleLost : Nat
  syncMissing : Nat
  codeViolations : Nat
  lengthErrors : Nat
  formatErrors : Nat
  checkErrors : Nat
  abandoned : Nat
  deriving DecidableEq, Repr

/-- One field receiver. -/
structure Receiver where
  state : RxState
  counters : RxCounters
  deriving DecidableEq, Repr

/-! ## Station table (STAB) -/

/-- Origin of an entry (R2). The origin NONE of a telegram without an entry is `none`. -/
inductive Origin where
  | pinned
  | learned
  deriving DecidableEq, Repr

/-- Mode of an entry (R2). -/
inductive Mode where
  | immediate
  | gather
  | block
  deriving DecidableEq, Repr

/-- The seven settings of an entry other than station ID and origin (R2). -/
structure Settings where
  mode : Mode
  gatherMs : Nat
  repeatMs : Nat
  replyEnabled : Bool
  replyDelayMs : Nat
  copySpacingMs : Nat
  windowWidthMs : Nat
  deriving DecidableEq, Repr

/-- An entry of the station table: static fields (R2) and dynamic fields (R3). -/
structure Entry where
  station : StationId
  origin : Origin
  settings : Settings
  lastSequence : Option Byte
  lastHeard : Option PartTime
  nextDownlinkSeq : Byte
  accepted : Nat
  duplicates : Nat
  stale : Nat
  deriving DecidableEq, Repr

/-- The unknown-station policy (R6). -/
inductive Policy where
  | drop
  | forward
  | learn
  deriving DecidableEq, Repr

/-- The station table: 64 places, a free one being `none` (R1), and its two parameters (R6, R7). -/
structure StationTable where
  places : Vector (Option Entry) 64
  policy : Policy
  unknownWindowMs : Nat
  deriving DecidableEq, Repr

/-! ## Repeat filter (RPF) -/

/-- Channels seen (R45). -/
inductive ChannelsSeen where
  | a
  | b
  | ab
  deriving DecidableEq, Repr

/-- The control fields of a first copy: LISTEN, URGENT and copies remaining (R45). CONFIRM_PRESENT is
set exactly when the confirm held beside it is present. -/
structure Control where
  listen : Bool
  urgent : Bool
  remaining : Fin 8
  deriving DecidableEq, Repr

/-- The state of a record with its gather deadline, which is present only while GATHERING (R44, R45). -/
inductive RecordState where
  | gathering (deadline : PartTime)
  | settled
  deriving DecidableEq, Repr

/-- A record of the recent-telegram list (R45). -/
structure Record where
  station : StationId
  sequence : Byte
  check : Word16
  firstEnd : PartTime
  state : RecordState
  copies : Nat
  channels : ChannelsSeen
  bestMargin : Nat
  conflict : Bool
  origin : Option Origin
  control : Control
  confirm : Option Byte
  payload : List Byte
  settleDeadline : PartTime
  deriving DecidableEq, Repr

/-- The eleven filter counters, in the order of R65. -/
structure FilterCounters where
  accepted : Nat
  duplicates : Nat
  conflicts : Nat
  lateRepeats : Nat
  stale : Nat
  blocked : Nat
  unknownDropped : Nat
  learned : Nat
  learnFailures : Nat
  evictions : Nat
  itemsLost : Nat
  deriving DecidableEq, Repr

/-- The repeat filter: the recent-telegram list, oldest first (R44), and the filter counters. -/
structure RepeatFilter where
  records : List Record
  counters : FilterCounters
  deriving DecidableEq, Repr

/-! ## Downlink store (DLS) -/

/-- The result of a downlink (R87). -/
inductive DownlinkResult where
  | confirmed
  | failed
  | expired
  | expiredSent
  | cancelled
  | discarded
  deriving DecidableEq, Repr

/-- The fields of a downlink that it has in every state (R69). `order` is its queue order. -/
structure Downlink where
  station : StationId
  hostTag : Byte
  sequence : Byte
  payload : List Byte
  attemptsLeft : Nat
  transmissions : Nat
  lifetimeDeadline : PartTime
  order : Nat
  deriving DecidableEq, Repr

/-- The state of a slot place (R68) with the fields present in it (R69): the window open and close while
ARMED, the result and its time while REPORTING. -/
inductive SlotState where
  | free
  | held (d : Downlink)
  | armed (d : Downlink) (windowOpen windowClose : PartTime)
  | sending (d : Downlink)
  | awaitConfirm (d : Downlink)
  | reporting (d : Downlink) (result : DownlinkResult) (time : PartTime)
  deriving DecidableEq, Repr

/-- A slot place: its generation, which stays with the place, and its state (R68). -/
structure Place where
  generation : Byte
  state : SlotState
  deriving DecidableEq, Repr

/-- The ten downlink counters, in the order of R91. -/
structure DownlinkCounters where
  queued : Nat
  transmissions : Nat
  confirmed : Nat
  failed : Nat
  expired : Nat
  cancelled : Nat
  discarded : Nat
  missedWindows : Nat
  staleConfirms : Nat
  busyUplinks : Nat
  deriving DecidableEq, Repr

/-- The downlink store (R68). -/
structure DownlinkStore where
  places : Vector Place 16
  counters : DownlinkCounters
  deriving DecidableEq, Repr

/-! ## Field transmitter (FTX) -/

/-- The line codes of the transmitter (R94). -/
inductive TxCode where
  | manchester
  | pulseWidth
  deriving DecidableEq, Repr

/-- The transmit parameters (R94). -/
structure TxParams where
  tickUs : Nat
  code : TxCode
  halfBitTicks : Nat
  preambleBits : Nat
  sync : Word16
  deriving DecidableEq, Repr

/-- The transmit snapshot (R95). -/
structure TxSnapshot where
  params : TxParams
  checkPoly : Word16
  checkInit : Word16
  station : StationId
  sequence : Byte
  payload : List Byte
  deriving DecidableEq, Repr

/-- The transmitter states of section 5.3. In SENDING, `sentTicks` is the position in the telegram: the
number of ticks already sent. In STOPPING, `rest` is the cell in progress: the FTX_KEY levels of its
ticks from the present one on. -/
inductive TxState where
  | idle
  | sending (snap : TxSnapshot) (slot : Fin 16) (sentTicks : Nat)
  | testing (testEnd : PartTime)
  | stopping (rest : List Bool)
  deriving DecidableEq, Repr

/-- The four transmit counters, in the order of R111. -/
structure TransmitCounters where
  started : Nat
  completed : Nat
  aborted : Nat
  tests : Nat
  deriving DecidableEq, Repr

/-- The field transmitter, with its two output lines (asserted is `true`, R99) and the candidate set as
the rising list of its slot indexes (R101). -/
structure Transmitter where
  params : TxParams
  state : TxState
  candidates : List (Fin 16)
  keyLine : Bool
  enLine : Bool
  counters : TransmitCounters
  deriving DecidableEq, Repr

/-! ## Delivery stream (DST) -/

/-- A TELEGRAM item (R60). -/
structure TelegramItem where
  station : StationId
  origin : Option Origin
  sequence : Byte
  control : Control
  confirm : Option Byte
  payload : List Byte
  copies : Nat
  channels : ChannelsSeen
  bestMargin : Nat
  firstEnd : PartTime
  conflict : Bool
  earlyClose : Bool
  deriving DecidableEq, Repr

/-- An OUTCOME item (R88). -/
structure OutcomeItem where
  slot : Fin 16
  generation : Byte
  hostTag : Byte
  station : StationId
  sequence : Byte
  result : DownlinkResult
  transmissions : Nat
  time : PartTime
  deriving DecidableEq, Repr

/-- An item of the delivery stream with its kind (R114). -/
inductive Item where
  | telegram (t : TelegramItem)
  | outcome (o : OutcomeItem)
  deriving DecidableEq, Repr

/-- An item in the window, with the two fields it carries there (R114). -/
structure SentItem where
  item : Item
  sequence : Byte
  resendPending : Bool
  deriving DecidableEq, Repr

/-- The stream state (R127). -/
inductive StreamState where
  | running
  | stalled
  deriving DecidableEq, Repr

/-- The six stream counters, in the order of R131. -/
structure StreamCounters where
  itemsSent : Nat
  resends : Nat
  acknowledged : Nat
  badAcks : Nat
  stalls : Nat
  droppedAtFresh : Nat
  deriving DecidableEq, Repr

/-- The delivery stream: waiting queue, head first; window, oldest first (R113); next delivery sequence
(R118); retransmit timer with its deadline, `none` when stopped (R122); timeout count (R127). -/
structure DeliveryStream where
  waiting : List Item
  window : List SentItem
  nextSequence : Byte
  timer : Option PartTime
  state : StreamState
  timeoutCount : Nat
  ackTimeoutMs : Nat
  stallLimit : Nat
  counters : StreamCounters
  deriving DecidableEq, Repr

/-! ## Alarm block (ALM) -/

/-- The eight causes in cause-number order (table of chapter 7). -/
inductive Cause where
  | restarted
  | learnFull
  | rtlPressure
  | streamDrop
  | linkStall
  | rxErrorBurst
  | trunkRxError
  | downlinkMissed
  deriving DecidableEq, Repr

/-- The occurrence count and first time of a pending cause (R134). -/
structure Occurrence where
  count : Nat
  first : PartTime
  deriving DecidableEq, Repr

/-- The state of one cause (R134). The cause is pending exactly when `occurrence` is present; a cause
that is not pending has occurrence count 0 and no first time. -/
structure CauseState where
  occurrence : Option Occurrence
  level : Nat
  deriving DecidableEq, Repr

/-- The alarm block, with the ATTN line (asserted is `true`, R141). -/
structure AlarmBlock where
  causes : Vector CauseState 8
  attentionLevel : Nat
  renotifyS : Nat
  renotifyDeadline : PartTime
  burstCount : Nat
  errorBurstLimit : Nat
  attn : Bool
  deriving DecidableEq, Repr

/-! ## Trunk link (TRK) -/

/-- The receive assembler (section 8.2). -/
inductive Assembler where
  | hunt
  | collecting (content : List Byte) (escaped : Bool)
  deriving DecidableEq, Repr

/-- The trunk receiver on TRXD (R146, R195): it waits for the falling edge of a start bit; or it samples the
byte whose start bit began at `start`, with the present level of the line and the data bits sampled so far,
least significant first; or, after a stop bit at space, it waits for the line to return to mark. -/
inductive TrunkSampler where
  | idle
  | receiving (start : Nat) (level : Bool) (bits : List Bool)
  | broken
  deriving DecidableEq, Repr

/-- A request in the held-request buffer: its tag and its body as received (R150). -/
structure HeldRequest where
  tag : Byte
  body : List Byte
  deriving DecidableEq, Repr

/-- A response: the tag of its request, the request code, the status code and the results, as the bytes
of R204. -/
structure Response where
  tag : Byte
  code : Byte
  status : Byte
  results : List Byte
  deriving DecidableEq, Repr

/-- A response in the response queue or on the line. `concludes` marks the response of a CLOSE-SESSION
or WARM-RESTART that has been carried out, whose end the request engine waits for (R158, R166). -/
structure QueuedResponse where
  response : Response
  concludes : Bool
  deriving DecidableEq, Repr

/-- A record of the duplicate-request cache (R152): the response holds the tag and the code. -/
structure CacheRecord where
  tag : Byte
  code : Byte
  response : Response
  deriving DecidableEq, Repr

/-- The session state with the idle deadline, which is absent in CLOSED and when SESSION_IDLE_S was 0
when it was last set (R155, R159). -/
inductive Session where
  | closed
  | opened (idleDeadline : Option PartTime)
  deriving DecidableEq, Repr

/-- What the frame on TTXD carries, with the values it was taken with (R137, R162). -/
inductive FrameContent where
  | response (r : QueuedResponse)
  | notice (c : Cause) (count level : Nat) (first : PartTime)
  | delivery (sequence : Byte) (item : Item)
  deriving DecidableEq, Repr

/-- The frame on TTXD; `aborted` when a session close has cut it short (R157). -/
structure LineFrame where
  content : FrameContent
  aborted : Bool
  deriving DecidableEq, Repr

/-- The fifteen trunk counters, in the order of R163. -/
structure TrunkCounters where
  validFrames : Nat
  lineErrors : Nat
  badEscapes : Nat
  oversize : Nat
  runts : Nat
  badChecks : Nat
  badKinds : Nat
  overruns : Nat
  duplicates : Nat
  idleCloses : Nat
  responsesSent : Nat
  noticesSent : Nat
  streamFramesSent : Nat
  framesAborted : Nat
  opens : Nat
  deriving DecidableEq, Repr

/-- The trunk link. `notices` is the notice set: the flag of a cause says whether it is a member (R136).
`line` is the frame on TTXD, `none` when the line rests at mark (R161). -/
structure TrunkLink where
  sampler : TrunkSampler
  assembler : Assembler
  held : List HeldRequest
  responses : List QueuedResponse
  cache : List CacheRecord
  session : Session
  sessionIdleS : Nat
  streamWait : Nat
  notices : Vector Bool 8
  line : Option LineFrame
  counters : TrunkCounters
  deriving DecidableEq, Repr

/-! ## Request engine (MRE) -/

/-- The states of the request engine (R166). -/
inductive EngineState where
  | ready
  | closing
  | restarting
  deriving DecidableEq, Repr

end Sys2Proof.Machine
end

