-- ==== Sys2Proof/Machine/ResetValues.lean ====
section
/-!
DEFINITION. The state of each block after a full reset (R197 and the rules it names).
-/

namespace Sys2Proof.Machine

/-- R191, R189: part time 0 and the levels read from the rate-select lines. -/
def resetTimeBase (rsel1 rsel0 : Bool) : TimeBase :=
  { partTime := 0, rsel1 := rsel1, rsel0 := rsel0, refclkRunning := true, release := none }

/-- R24, R42: every parameter of the receive profile at its default. -/
def resetProfile : RxProfile :=
  { code := .manchester, bitTimeUs := 256, preambleMin := 12, sync := 0x93B5, checkPoly := 0x2F15,
    checkInit := 0xFFFF, maxLength := 38, enableA := true, enableB := true }

/-- R40: all eight counters of a channel at 0. -/
def zeroRxCounters : RxCounters :=
  { copiesDelivered := 0, preambleLost := 0, syncMissing := 0, codeViolations := 0, lengthErrors := 0,
    formatErrors := 0, checkErrors := 0, abandoned := 0 }

/-- R42: a receiver in HUNT with no candidate cell, counters 0. -/
def resetReceiver : Receiver :=
  { state := .hunt none, counters := zeroRxCounters }

/-- R22: every place free, UNKNOWN_POLICY DROP, UNKNOWN_WINDOW_MS 5000. -/
def resetStationTable : StationTable :=
  { places := Vector.replicate 64 none, policy := .drop, unknownWindowMs := 5000 }

/-- R65: all eleven filter counters at 0. -/
def zeroFilterCounters : FilterCounters :=
  { accepted := 0, duplicates := 0, conflicts := 0, lateRepeats := 0, stale := 0, blocked := 0,
    unknownDropped := 0, learned := 0, learnFailures := 0, evictions := 0, itemsLost := 0 }

/-- R66: the recent-telegram list empty, counters 0. -/
def resetFilter : RepeatFilter :=
  { records := [], counters := zeroFilterCounters }

/-- R91: all ten downlink counters at 0. -/
def zeroDownlinkCounters : DownlinkCounters :=
  { queued := 0, transmissions := 0, confirmed := 0, failed := 0, expired := 0, cancelled := 0,
    discarded := 0, missedWindows := 0, staleConfirms := 0, busyUplinks := 0 }

/-- R92: every place FREE with generation 0, counters 0. -/
def resetStore : DownlinkStore :=
  { places := Vector.replicate 16 { generation := 0, state := .free }, counters := zeroDownlinkCounters }

/-- R94: the transmit parameters at their defaults. -/
def resetTxParams : TxParams :=
  { tickUs := 100, code := .manchester, halfBitTicks := 2, preambleBits := 16, sync := 0x93B5 }

/-- R111: all four transmit counters at 0. -/
def zeroTransmitCounters : TransmitCounters :=
  { started := 0, completed := 0, aborted := 0, tests := 0 }

/-- R112: IDLE with both lines deasserted, no candidate, parameters at their defaults, counters 0. -/
def resetTransmitter : Transmitter :=
  { params := resetTxParams, state := .idle, candidates := [], keyLine := false, enLine := false,
    counters := zeroTransmitCounters }

/-- R131: all six stream counters at 0. -/
def zeroStreamCounters : StreamCounters :=
  { itemsSent := 0, resends := 0, acknowledged := 0, badAcks := 0, stalls := 0, droppedAtFresh := 0 }

/-- R132: the stream empty and RUNNING, timer stopped, parameters at their defaults, counters 0. -/
def resetStream : DeliveryStream :=
  { waiting := [], window := [], nextSequence := 0, timer := none, state := .running, timeoutCount := 0,
    ackTimeoutMs := 250, stallLimit := 5, counters := zeroStreamCounters }

/-- The default level of each cause (table of chapter 7, R139). -/
def Cause.defaultLevel : Cause → Nat
  | .restarted => 2
  | .learnFull => 1
  | .rtlPressure => 1
  | .streamDrop => 3
  | .linkStall => 3
  | .rxErrorBurst => 1
  | .trunkRxError => 1
  | .downlinkMissed => 1

/-- R144: causes cleared with default levels, then RESTARTED raised at part time 0; ATTENTION_LEVEL 3,
so ATTN is deasserted; RENOTIFY_S 10 with deadline 10000; burst count 0, ERROR_BURST_LIMIT 20. -/
def resetAlarm : AlarmBlock :=
  { causes := #v[
      { occurrence := some { count := 1, first := 0 }, level := Cause.defaultLevel .restarted },
      { occurrence := none, level := Cause.defaultLevel .learnFull },
      { occurrence := none, level := Cause.defaultLevel .rtlPressure },
      { occurrence := none, level := Cause.defaultLevel .streamDrop },
      { occurrence := none, level := Cause.defaultLevel .linkStall },
      { occurrence := none, level := Cause.defaultLevel .rxErrorBurst },
      { occurrence := none, level := Cause.defaultLevel .trunkRxError },
      { occurrence := none, level := Cause.defaultLevel .downlinkMissed }],
    attentionLevel := 3, renotifyS := 10, renotifyDeadline := 10000, burstCount := 0,
    errorBurstLimit := 20, attn := false }

/-- R163: all fifteen trunk counters at 0. -/
def zeroTrunkCounters : TrunkCounters :=
  { validFrames := 0, lineErrors := 0, badEscapes := 0, oversize := 0, runts := 0, badChecks := 0,
    badKinds := 0, overruns := 0, duplicates := 0, idleCloses := 0, responsesSent := 0, noticesSent := 0,
    streamFramesSent := 0, framesAborted := 0, opens := 0 }

/-- R164: trunk receiver waiting for a start bit, assembler in HUNT, session CLOSED, buffers, queue, cache and notice set empty, TTXD at mark,
SESSION_IDLE_S 30, stream wait count and counters 0. -/
def resetTrunk : TrunkLink :=
  { sampler := .idle, assembler := .hunt, held := [], responses := [], cache := [], session := .closed, sessionIdleS := 30,
    streamWait := 0, notices := Vector.replicate 8 false, line := none, counters := zeroTrunkCounters }

end Sys2Proof.Machine
end

