-- ==== Sys2Proof/Machine/State.lean ====
section
/-!
DEFINITION. The state of the whole part, the outcomes a step can have beside a next state, and the
state after a full reset.
-/

namespace Sys2Proof.Machine

/-- The state of the G640: every block's state, whether the part is held in full reset (R196), and the
commands that wait, first in, first out (the queue is the model's own, log entry 1). -/
structure State where
  inReset : Bool
  tbs : TimeBase
  profile : RxProfile
  fra : Receiver
  frb : Receiver
  stab : StationTable
  rpf : RepeatFilter
  dls : DownlinkStore
  ftx : Transmitter
  dst : DeliveryStream
  trk : TrunkLink
  mre : EngineState
  alm : AlarmBlock
  pending : List Instr
  deriving DecidableEq, Repr

/-- The faults of the model. The manual gives every event of the part an effect, so there is none. -/
inductive Fault where
  deriving DecidableEq, Repr

/-- The refusals of the model. Every command has its meaning, so no command is answered with one. -/
inductive Refusal where
  /-- Raised by `exec` for a command that has no meaning yet. Safe: the machine stops. No arm uses it. -/
  | notModelled (mnemonic : String)
  deriving DecidableEq, Repr

/-- The state at the end of a full reset that reads these levels on RSEL1 and RSEL0 (R197), with the
given commands waiting. -/
def State.afterReset (rsel1 rsel0 : Bool) (pending : List Instr) : State :=
  { inReset := false, tbs := resetTimeBase rsel1 rsel0, profile := resetProfile, fra := resetReceiver,
    frb := resetReceiver, stab := resetStationTable, rpf := resetFilter, dls := resetStore,
    ftx := resetTransmitter, dst := resetStream, trk := resetTrunk, mre := .ready, alm := resetAlarm,
    pending := pending }

/-- The machine right after a full reset (R197). The levels of RSEL1 and RSEL0 come from outside the
part; here both are low. DESIGN CHOICE (log entry 2). -/
def State.reset : State := State.afterReset false false []

end Sys2Proof.Machine
end

