-- ==== Sys2Proof/Machine/Flags.lean ====
section
/-!
DEFINITION. The comparisons, counts and checks that the rules of every block share: saturating counts,
deadlines and ages, the 16-bit check, and the REFCLK quantities of the time base.
-/

namespace Sys2Proof.Machine

/-! ## Saturating counts -/

/-- A count 0–65535 advances by one and stops at 65535 (00_scope.md section 7, Counters). -/
def bump (n : Nat) : Nat := if n < 65535 then n + 1 else n

/-- A count 0–65535 advances by `k`. -/
def bumpBy (k n : Nat) : Nat := (bump^[k]) n

/-- A count 0–255 advances by one and stops at 255 (R45, R134, R142). -/
def bumpByte (n : Nat) : Nat := if n < 255 then n + 1 else n

/-! ## Part time, deadlines and ages -/

/-- R190, R196: the part takes events: it is not held in full reset, and REFCLK runs. -/
def State.takesEvents (s : State) : Bool := !s.inReset && s.tbs.refclkRunning

/-- Part time of the present event (R191). -/
def State.now (s : State) : PartTime := s.tbs.partTime

/-- The part time `ms` milliseconds after `t`, mod 2^32 (R192). -/
def after (t : PartTime) (ms : Nat) : PartTime := t + BitVec.ofNat 32 ms

/-- R192: a deadline `d` is reached when (now − d) mod 2^32 is less than 2^31. -/
def reached (now d : PartTime) : Bool := decide ((now - d).toNat < 2147483648)

/-- The expiry of a deadline lies behind: the deadline is reached, and part time has advanced since. At its own
increment a deadline is reached, and its expiry is one event among the others of that part time (R192). -/
def passed (now d : PartTime) : Bool := reached now d && now != d

/-- R193: the age of a past part time. -/
def age (now t : PartTime) : Nat := (now - t).toNat

/-! ## Choosing a first largest or first smallest member -/

/-- The first member of a list whose key is largest. -/
def firstMax {ι : Type} (key : ι → Nat) : List ι → Option ι
  | [] => none
  | x :: xs =>
    match firstMax key xs with
    | none => some x
    | some y => if key x < key y then some y else some x

/-- The first member of a list whose key is smallest. -/
def firstMin {ι : Type} (key : ι → Nat) : List ι → Option ι
  | [] => none
  | x :: xs =>
    match firstMin key xs with
    | none => some x
    | some y => if key y < key x then some y else some x

/-! ## The 16-bit check -/

/-- R34, R201: one bit passes through the check register. -/
def checkBit (poly reg : Word16) (bit : Bool) : Word16 :=
  if reg.msb == bit then reg <<< 1 else (reg <<< 1) ^^^ poly

/-- The bits of a byte in line order, bit 7 first (R199). -/
def byteBits (b : Byte) : List Bool :=
  [b.getLsbD 7, b.getLsbD 6, b.getLsbD 5, b.getLsbD 4, b.getLsbD 3, b.getLsbD 2, b.getLsbD 1, b.getLsbD 0]

/-- The bits of a 16-bit word, most significant bit first. -/
def wordBits (w : Word16) : List Bool :=
  [w.getLsbD 15, w.getLsbD 14, w.getLsbD 13, w.getLsbD 12, w.getLsbD 11, w.getLsbD 10, w.getLsbD 9,
    w.getLsbD 8, w.getLsbD 7, w.getLsbD 6, w.getLsbD 5, w.getLsbD 4, w.getLsbD 3, w.getLsbD 2, w.getLsbD 1,
    w.getLsbD 0]

/-- R201: one byte passes through the check register, bit 7 first. -/
def checkByte (poly reg : Word16) (b : Byte) : Word16 :=
  (byteBits b).foldl (checkBit poly) reg

/-- R201: the check of a sequence of bytes. -/
def checkOf (poly init : Word16) (bs : List Byte) : Word16 :=
  bs.foldl (checkByte poly) init

/-- R147, R202: the frame check, with polynomial 0x2F15 and initial value 0xFFFF. -/
def frameCheck (bs : List Byte) : Word16 := checkOf 0x2F15 0xFFFF bs

/-! ## REFCLK quantities (R189, R195) -/

/-- R189: the reference clock expected, in MHz, which is the number of periods in a microsecond. -/
def TimeBase.refclkMHz (t : TimeBase) : Nat :=
  match t.rsel1, t.rsel0 with
  | false, false => 4
  | false, true => 8
  | true, false => 12
  | true, true => 16

/-- R146, R189: the trunk line rate in bit/s. -/
def TimeBase.trunkRate (t : TimeBase) : Nat :=
  match t.rsel1, t.rsel0 with
  | false, false => 19200
  | false, true => 57600
  | true, false => 115200
  | true, true => 460800

/-- R195: `num / den` rounded to the nearest period. When two periods are equally near, the choice is
free (`Config.tieRoundsUp`, log entry 10). -/
def nearest (num den : Nat) : Nat :=
  if 2 * (num % den) < den then num / den
  else if den < 2 * (num % den) then num / den + 1
  else if Config.tieRoundsUp num den then num / den + 1 else num / den

/-- R189: periods in one millisecond of part time. -/
def TimeBase.millisecondPeriods (t : TimeBase) : Nat := t.refclkMHz * 1000

/-- R189: periods in one transmit tick. -/
def TimeBase.tickPeriods (t : TimeBase) (tickUs : Nat) : Nat := tickUs * t.refclkMHz

/-- R189, R195: periods in one trunk bit, the whole number nearest to the clock over the line rate. -/
def TimeBase.trunkBitPeriods (t : TimeBase) : Nat := nearest (t.refclkMHz * 1000000) t.trunkRate

/-- R195: the sampling point of the `k`-th bit after a trunk start bit that began at `start`: the middle of its
bit time, in periods. -/
def TimeBase.trunkSample (t : TimeBase) (start k : Nat) : Nat :=
  start + nearest ((2 * k + 1) * t.trunkBitPeriods) 2

/-- R195: the place `k`/24 of a bit time of `us` microseconds after a reference edge, in periods. Every
window and class band of chapter 2 stands at a whole number of 24ths. -/
def TimeBase.place24 (t : TimeBase) (us k : Nat) : Nat := nearest (us * t.refclkMHz * k) 24

end Sys2Proof.Machine
end

