-- ==== Sys2Proof/WellFormed.lean ====
section
/-!
DEFINITION. Which commands are well formed: the ones that can occur at the part as their row describes
them. The meanings are total: an ill-formed command still gets the effect that the rules give what it
brings (for instance a copy with a reserved station ID is a format error).
-/

namespace Sys2Proof

/-- A station ID that the manual excludes: 0x000000 and 0xFFFFFF (00_scope.md section 5). -/
def StationId.reserved (id : StationId) : Bool :=
  id == 0 || id == 0xFFFFFF

/-- The nineteen request codes of R203. -/
def definedCodes : List Byte :=
  [0x10, 0x11, 0x12, 0x13, 0x20, 0x21, 0x30, 0x31, 0x32, 0x33, 0x40, 0x41, 0x42, 0x50, 0x51, 0x52, 0x53,
    0x60, 0x61]

/-- A copy the receivers can hand over: they reject a reserved station ID and a payload of more than 32
bytes as a format error (R35). -/
def Copy.wf (c : Copy) : Bool :=
  !c.station.reserved && decide (c.payload.length ≤ 32)

/-- A trunk frame body holds at most 80 bytes (R202). -/
def bodyFits (body : List Byte) : Bool :=
  decide (body.length ≤ 80)

/-- Well-formedness of a command. -/
def Instr.wf : Instr → Bool
  | .copy c => c.wf
  | .gatherDeadline id _ => !id.reserved
  | .settleDeadline id _ => !id.reserved
  | .badKind kind _ body => bodyFits body && (kind != 0x01) && (kind != 0x02 || !body.isEmpty)
  | .requestFrame _ body => bodyFits body
  | .duplicate tag _ args => (tag != 0) && bodyFits (0 :: args)
  | .undefinedRequest _ body =>
    bodyFits body && (match body with
      | [] => true
      | c :: _ => !definedCodes.contains c)
  | .setParameter _ _ value => decide (value.length ≤ 78)
  | .queueDownlink _ _ _ _ _ payload => decide (payload.length ≤ 71)
  | .fullReset => true
  | .fullResetEnd _ _ => true
  | .preambleLost _ => true
  | .syncMissing _ => true
  | .receiverError _ _ => true
  | .windowOpen _ => true
  | .windowClose _ => true
  | .lifetimeDeadline _ => true
  | .transmissionEnd => true
  | .testEnd => true
  | .stoppingEnd => true
  | .ack _ => true
  | .retransmitTimerExpiry => true
  | .frameBoundary => true
  | .lineError => true
  | .discardedContent _ => true
  | .idleDeadline => true
  | .renotifyDeadline => true
  | .perSecondBoundary => true
  | .openSession _ _ => true
  | .closeSession _ => true
  | .getStatus _ => true
  | .warmRestart _ => true
  | .getParameter _ _ => true
  | .putStation _ _ _ _ _ _ _ _ _ => true
  | .dropStation _ _ => true
  | .getStation _ _ => true
  | .listStations _ _ => true
  | .cancelDownlink _ _ _ => true
  | .getDownlink _ _ _ => true
  | .getCauses _ => true
  | .clearCause _ _ => true
  | .getCounters _ _ => true
  | .clearCounters _ _ => true
  | .carrierTest _ _ => true
  | .carrierStop _ => true
  | .cellDecoded _ _ => true
  | .partTimeAdvance => true

end Sys2Proof
end

