-- ==== Sys2Proof/Machine/Operands.lean ====
section
/-!
DEFINITION. The byte layouts of chapter 11: fields of more than one byte, enumerated codes (R206),
parameters (R207), request bodies (R203), uplink and downlink telegrams (R199, R200), items (R205) and
trunk frames (R147, R202).
-/

namespace Sys2Proof.Machine

/-! ## Fields of several bytes, most significant byte first (chapter 11) -/

/-- A number as one byte. -/
def byteOf (n : Nat) : Byte := BitVec.ofNat 8 n

/-- A number as two bytes. -/
def be16 (n : Nat) : List Byte := [byteOf (n / 256), byteOf n]

/-- A 24-bit station ID as three bytes. -/
def be24 (id : StationId) : List Byte :=
  [byteOf (id.toNat / 65536), byteOf (id.toNat / 256), byteOf id.toNat]

/-- A part time as four bytes. -/
def be32 (t : PartTime) : List Byte :=
  [byteOf (t.toNat / 16777216), byteOf (t.toNat / 65536), byteOf (t.toNat / 256), byteOf t.toNat]

/-- The number that two bytes stand for. -/
def num16 (a b : Byte) : Nat := a.toNat * 256 + b.toNat

/-- The station ID that three bytes stand for. -/
def id24 (a b c : Byte) : StationId := BitVec.ofNat 24 (a.toNat * 65536 + b.toNat * 256 + c.toNat)

/-- The number that a byte string stands for. -/
def numOf (bs : List Byte) : Nat := bs.foldl (fun n b => n * 256 + b.toNat) 0

/-- An optional field: its bytes when present, none when absent (chapter 11). -/
def optBytes {α : Type} (f : α → List Byte) : Option α → List Byte
  | none => []
  | some x => f x

/-- A flag as one bit of a flags byte. -/
def flagBit (b : Bool) (weight : Nat) : Nat := if b then weight else 0

/-- no and yes (R206). -/
def yesNo (b : Bool) : Byte := if b then 0x01 else 0x00

/-! ## Enumerated values (R206) -/

/-- R206: station mode codes. -/
def Mode.code : Mode → Byte
  | .immediate => 0x00
  | .gather => 0x01
  | .block => 0x02

/-- R206: the mode of a code. -/
def modeOf (b : Byte) : Option Mode :=
  if b = 0x00 then some .immediate else if b = 0x01 then some .gather else if b = 0x02 then some .block else none

/-- R206: the yes or no of a code. -/
def boolOf (b : Byte) : Option Bool :=
  if b = 0x00 then some false else if b = 0x01 then some true else none

/-- R206: origin codes, `none` being NONE. -/
def originCode : Option Origin → Byte
  | none => 0x00
  | some .pinned => 0x01
  | some .learned => 0x02

/-- R206: channels-seen codes. -/
def ChannelsSeen.code : ChannelsSeen → Byte
  | .a => 0x01
  | .b => 0x02
  | .ab => 0x03

/-- R206: session-state codes. -/
def Session.code : Session → Byte
  | .closed => 0x00
  | .opened _ => 0x01

/-- R206: stream-state codes. -/
def StreamState.code : StreamState → Byte
  | .running => 0x00
  | .stalled => 0x01

/-- R206: slot-state codes. -/
def SlotState.code : SlotState → Byte
  | .free => 0x00
  | .held _ => 0x01
  | .armed _ _ _ => 0x02
  | .sending _ => 0x03
  | .awaitConfirm _ => 0x04
  | .reporting _ _ _ => 0x05

/-- R206: result codes. -/
def DownlinkResult.code : DownlinkResult → Byte
  | .confirmed => 0x01
  | .failed => 0x02
  | .expired => 0x03
  | .expiredSent => 0x04
  | .cancelled => 0x05
  | .discarded => 0x06

/-- The mode of an OPEN-SESSION. -/
inductive OpenMode where
  | resume
  | fresh
  deriving DecidableEq, Repr

/-- R206: session-mode codes. -/
def OpenMode.code : OpenMode → Byte
  | .resume => 0x01
  | .fresh => 0x02

/-- R206: the session mode of a code. -/
def openModeOf (b : Byte) : Option OpenMode :=
  if b = 0x01 then some .resume else if b = 0x02 then some .fresh else none

/-- A cause's place among the eight, its cause number less one (table of chapter 7). -/
def Cause.index : Cause → Fin 8
  | .restarted => 0
  | .learnFull => 1
  | .rtlPressure => 2
  | .streamDrop => 3
  | .linkStall => 4
  | .rxErrorBurst => 5
  | .trunkRxError => 6
  | .downlinkMissed => 7

/-- The eight causes in cause-number order. -/
def allCauses : List Cause :=
  [.restarted, .learnFull, .rtlPressure, .streamDrop, .linkStall, .rxErrorBurst, .trunkRxError, .downlinkMissed]

/-- R206: cause numbers 1–8. -/
def Cause.number (c : Cause) : Nat := c.index.val + 1

/-- R206: the cause of a number. -/
def causeOf (b : Byte) : Option Cause := allCauses.find? (fun c => byteOf c.number == b)

/-- The counter groups (R185). -/
inductive CounterGroup where
  | rxA
  | rxB
  | filter
  | downlink
  | transmit
  | stream
  | trunk
  deriving DecidableEq, Repr

/-- R206: the counter group of a code. -/
def groupOf (b : Byte) : Option CounterGroup :=
  if b = 0x01 then some .rxA else if b = 0x02 then some .rxB else if b = 0x03 then some .filter
  else if b = 0x04 then some .downlink else if b = 0x05 then some .transmit else if b = 0x06 then some .stream
  else if b = 0x07 then some .trunk else none

/-- The statuses of a response (R204). -/
inductive Status where
  | ok
  | badFormat
  | badRequest
  | badValue
  | notOpen
  | notFound
  | tableFull
  | poolFull
  | stationLimit
  | noReply
  | inFlight
  | busy
  | done
  deriving DecidableEq, Repr

/-- R204: status codes. -/
def Status.code : Status → Byte
  | .ok => 0x00
  | .badFormat => 0x01
  | .badRequest => 0x02
  | .badValue => 0x03
  | .notOpen => 0x04
  | .notFound => 0x05
  | .tableFull => 0x06
  | .poolFull => 0x07
  | .stationLimit => 0x08
  | .noReply => 0x09
  | .inFlight => 0x0A
  | .busy => 0x0B
  | .done => 0x0C

/-! ## Counters of a group, in the order of the owner's table (R185) -/

/-- R40. -/
def RxCounters.toList (c : RxCounters) : List Nat :=
  [c.copiesDelivered, c.preambleLost, c.syncMissing, c.codeViolations, c.lengthErrors, c.formatErrors,
    c.checkErrors, c.abandoned]

/-- R65. -/
def FilterCounters.toList (c : FilterCounters) : List Nat :=
  [c.accepted, c.duplicates, c.conflicts, c.lateRepeats, c.stale, c.blocked, c.unknownDropped, c.learned,
    c.learnFailures, c.evictions, c.itemsLost]

/-- R91. -/
def DownlinkCounters.toList (c : DownlinkCounters) : List Nat :=
  [c.queued, c.transmissions, c.confirmed, c.failed, c.expired, c.cancelled, c.discarded, c.missedWindows,
    c.staleConfirms, c.busyUplinks]

/-- R111. -/
def TransmitCounters.toList (c : TransmitCounters) : List Nat :=
  [c.started, c.completed, c.aborted, c.tests]

/-- R131. -/
def StreamCounters.toList (c : StreamCounters) : List Nat :=
  [c.itemsSent, c.resends, c.acknowledged, c.badAcks, c.stalls, c.droppedAtFresh]

/-- R163. -/
def TrunkCounters.toList (c : TrunkCounters) : List Nat :=
  [c.validFrames, c.lineErrors, c.badEscapes, c.oversize, c.runts, c.badChecks, c.badKinds, c.overruns,
    c.duplicates, c.idleCloses, c.responsesSent, c.noticesSent, c.streamFramesSent, c.framesAborted, c.opens]

/-! ## Parameters (R176, R207) -/

/-- The thirty parameters (R176). -/
inductive Param where
  | unknownPolicy
  | unknownWindowMs
  | rxCode
  | rxBitTimeUs
  | rxPreambleMin
  | rxSync
  | rxCheckPoly
  | rxCheckInit
  | rxMaxLength
  | rxEnableA
  | rxEnableB
  | txTickUs
  | txCode
  | txHalfBitTicks
  | txPreambleBits
  | txSync
  | ackTimeoutMs
  | stallLimit
  | sessionIdleS
  | renotifyS
  | attentionLevel
  | errorBurstLimit
  | level (c : Cause)
  deriving DecidableEq, Repr

/-- R207: parameter numbers. -/
def Param.number : Param → Byte
  | .unknownPolicy => 0x01
  | .unknownWindowMs => 0x02
  | .rxCode => 0x10
  | .rxBitTimeUs => 0x11
  | .rxPreambleMin => 0x12
  | .rxSync => 0x13
  | .rxCheckPoly => 0x14
  | .rxCheckInit => 0x15
  | .rxMaxLength => 0x16
  | .rxEnableA => 0x17
  | .rxEnableB => 0x18
  | .txTickUs => 0x20
  | .txCode => 0x21
  | .txHalfBitTicks => 0x22
  | .txPreambleBits => 0x23
  | .txSync => 0x24
  | .ackTimeoutMs => 0x30
  | .stallLimit => 0x31
  | .sessionIdleS => 0x38
  | .renotifyS => 0x40
  | .attentionLevel => 0x41
  | .errorBurstLimit => 0x42
  | .level c => byteOf (0x50 + c.number)

/-- The thirty parameters in the order of R207. -/
def allParams : List Param :=
  [.unknownPolicy, .unknownWindowMs, .rxCode, .rxBitTimeUs, .rxPreambleMin, .rxSync, .rxCheckPoly, .rxCheckInit,
    .rxMaxLength, .rxEnableA, .rxEnableB, .txTickUs, .txCode, .txHalfBitTicks, .txPreambleBits, .txSync,
    .ackTimeoutMs, .stallLimit, .sessionIdleS, .renotifyS, .attentionLevel, .errorBurstLimit] ++
    allCauses.map Param.level

/-- R207: the parameter of a number. -/
def paramOf (b : Byte) : Option Param := allParams.find? (fun p => p.number == b)

/-- R207: the width of a parameter's value in bytes. -/
def Param.width : Param → Nat
  | .unknownWindowMs | .rxBitTimeUs | .rxSync | .rxCheckPoly | .rxCheckInit | .txTickUs | .txSync
  | .ackTimeoutMs => 2
  | .unknownPolicy | .rxCode | .rxPreambleMin | .rxMaxLength | .rxEnableA | .rxEnableB | .txCode
  | .txHalfBitTicks | .txPreambleBits | .stallLimit | .sessionIdleS | .renotifyS | .attentionLevel
  | .errorBurstLimit | .level _ => 1

/-- R176, R207: the encoded values in a parameter's range. -/
def Param.inRange (p : Param) (v : Nat) : Bool :=
  match p with
  | .unknownPolicy => decide (v ≤ 2)
  | .unknownWindowMs => decide (100 ≤ v ∧ v ≤ 60000)
  | .rxCode => decide (v ≤ 2)
  | .rxBitTimeUs => decide (100 ≤ v ∧ v ≤ 2000)
  | .rxPreambleMin => decide (8 ≤ v ∧ v ≤ 32)
  | .rxSync => decide (v ≤ 0xFFFF)
  | .rxCheckPoly => decide (v ≤ 0xFFFF)
  | .rxCheckInit => decide (v ≤ 0xFFFF)
  | .rxMaxLength => decide (5 ≤ v ∧ v ≤ 38)
  | .rxEnableA => decide (v ≤ 1)
  | .rxEnableB => decide (v ≤ 1)
  | .txTickUs => decide (20 ≤ v ∧ v ≤ 1000)
  | .txCode => decide (v = 0 ∨ v = 2)
  | .txHalfBitTicks => decide (1 ≤ v ∧ v ≤ 16)
  | .txPreambleBits => decide (8 ≤ v ∧ v ≤ 64)
  | .txSync => decide (v ≤ 0xFFFF)
  | .ackTimeoutMs => decide (20 ≤ v ∧ v ≤ 5000)
  | .stallLimit => decide (1 ≤ v ∧ v ≤ 15)
  | .sessionIdleS => decide (v ≤ 120)
  | .renotifyS => decide (1 ≤ v ∧ v ≤ 60)
  | .attentionLevel => decide (1 ≤ v ∧ v ≤ 3)
  | .errorBurstLimit => decide (1 ≤ v ∧ v ≤ 255)
  | .level _ => decide (v ≤ 3)

/-- A value in a parameter's width. -/
def Param.encode (p : Param) (v : Nat) : List Byte := if p.width = 2 then be16 v else [byteOf v]

/-- R207: policy codes. -/
def Policy.num : Policy → Nat
  | .drop => 0
  | .forward => 1
  | .learn => 2

/-- R207: the policy of a code in range. -/
def policyOf : Nat → Policy
  | 0 => .drop
  | 1 => .forward
  | _ => .learn

/-- R207: receive-code codes. -/
def LineCode.num : LineCode → Nat
  | .manchester => 0
  | .biphaseMark => 1
  | .pulseWidth => 2

/-- R207: the receive code of a code in range. -/
def lineCodeOf : Nat → LineCode
  | 0 => .manchester
  | 1 => .biphaseMark
  | _ => .pulseWidth

/-- R207: transmit-code codes, shared with RX_CODE. -/
def TxCode.num : TxCode → Nat
  | .manchester => 0
  | .pulseWidth => 2

/-- R207: the transmit code of a code in range. -/
def txCodeOf : Nat → TxCode
  | 0 => .manchester
  | _ => .pulseWidth

/-! ## Request bodies (R203) -/

/-- The bytes after the code of a PUT-STATION (R203). -/
def putStationArgs (station : StationId) (mode : Byte) (gatherTime repeatWindow : Word16)
    (replyEnabled replyDelay copySpacing windowWidth : Byte) : List Byte :=
  be24 station ++ [mode] ++ be16 gatherTime.toNat ++ be16 repeatWindow.toNat ++
    [replyEnabled, replyDelay, copySpacing, windowWidth]

/-- The bytes after the code of a QUEUE-DOWNLINK, with the payload's own length stated (R203). -/
def queueDownlinkArgs (station : StationId) (hostTag attempts : Byte) (lifetime : Word16)
    (payload : List Byte) : List Byte :=
  be24 station ++ [hostTag, attempts] ++ be16 lifetime.toNat ++ [byteOf payload.length] ++ payload

/-! ## Uplink telegrams (R199) -/

/-- The control byte of an uplink (R199). -/
def controlByte (listen confirmPresent urgent : Bool) (remaining : Nat) : Byte :=
  byteOf (flagBit listen 128 + flagBit confirmPresent 64 + flagBit urgent 32 + remaining)

/-- The length byte and body of the uplink that a copy was read from, with the given copies remaining
(R199). -/
def copyLengthAndBody (c : Copy) (remaining : Nat) : List Byte :=
  [byteOf (5 + flagBit c.confirm.isSome 1 + c.payload.length),
    controlByte c.listen c.confirm.isSome c.urgent remaining] ++
    be24 c.station ++ [c.sequence] ++ optBytes (fun b => [b]) c.confirm ++ c.payload

/-- R46, R201: the normalised check, over length and body with copies remaining taken as 0. -/
def normalisedCheck (c : Copy) (poly init : Word16) : Word16 :=
  checkOf poly init (copyLengthAndBody c 0)

/-- The fields of an uplink body (R199). -/
structure UplinkFields where
  station : StationId
  sequence : Byte
  control : Control
  confirm : Option Byte
  payload : List Byte
  deriving DecidableEq, Repr

/-- The fields that follow station and sequence, and the format checks of R35 on them. -/
def uplinkTail (control : Byte) (station : StationId) (sequence : Byte) (rest : List Byte) :
    Option UplinkFields :=
  let ctl : Control :=
    { listen := control.getLsbD 7, urgent := control.getLsbD 5, remaining := ⟨control.toNat % 8, by omega⟩ }
  if control.getLsbD 4 || control.getLsbD 3 || station.reserved then none
  else if control.getLsbD 6 then
    match rest with
    | [] => none
    | c :: payload =>
      if payload.length ≤ 32 then
        some { station := station, sequence := sequence, control := ctl, confirm := some c, payload := payload }
      else none
  else if rest.length ≤ 32 then
    some { station := station, sequence := sequence, control := ctl, confirm := none, payload := rest }
  else none

/-- R35: a body whose check matched is read as the fields of R199; `none` is a format error. -/
def readUplink (body : List Byte) : Option UplinkFields :=
  match body with
  | control :: a :: b :: c :: sequence :: rest => uplinkTail control (id24 a b c) sequence rest
  | _ => none

/-! ## Downlink telegrams (R98, R200) and their line coding (R96, R97) -/

/-- R98, R200: length byte and body of a downlink. -/
def TxSnapshot.lengthAndBody (t : TxSnapshot) : List Byte :=
  [byteOf (5 + t.payload.length), 0x10] ++ be24 t.station ++ [t.sequence] ++ t.payload

/-- R98: the bits of a downlink in line order: preamble, sync word, length, body, check. -/
def TxSnapshot.bits (t : TxSnapshot) : List Bool :=
  List.replicate t.params.preambleBits false ++ wordBits t.params.sync ++
    t.lengthAndBody.flatMap byteBits ++ wordBits (checkOf t.checkPoly t.checkInit t.lengthAndBody)

/-- R96, R97: the FTX_KEY level of each tick of a cell with unit `h`; a mark is `true`. -/
def cellLevels (code : TxCode) (h : Nat) (bit : Bool) : List Bool :=
  match code with
  | .manchester => List.replicate h (!bit) ++ List.replicate h bit
  | .pulseWidth =>
    List.replicate (if bit then 2 * h else h) true ++ List.replicate (if bit then h else 2 * h) false

/-- R96, R97: ticks in a cell. -/
def TxParams.cellTicks (p : TxParams) : Nat :=
  match p.code with
  | .manchester => 2 * p.halfBitTicks
  | .pulseWidth => 3 * p.halfBitTicks

/-- The FTX_KEY level of every tick of a downlink (R99). -/
def TxSnapshot.levels (t : TxSnapshot) : List Bool :=
  t.bits.flatMap (cellLevels t.params.code t.params.halfBitTicks)

/-! ## Items (R205) -/

/-- R205: the body of a DELIVERY frame. -/
def Item.body : Item → List Byte
  | .telegram t =>
    [0x01] ++ be24 t.station ++ [originCode t.origin, t.sequence,
      controlByte t.control.listen t.confirm.isSome t.control.urgent t.control.remaining.val] ++
      optBytes (fun b => [b]) t.confirm ++
      [byteOf t.copies, t.channels.code, byteOf t.bestMargin] ++ be32 t.firstEnd ++
      [byteOf (flagBit t.conflict 1 + flagBit t.earlyClose 2), byteOf t.payload.length] ++ t.payload
  | .outcome o =>
    [0x02, byteOf o.slot.val, o.generation, o.hostTag] ++ be24 o.station ++
      [o.sequence, o.result.code, byteOf o.transmissions] ++ be32 o.time

/-! ## Trunk frames (R147, R161, R202) -/

/-- R202: kind, tag and body of a frame that the part sends. -/
def FrameContent.kindTagBody : FrameContent → List Byte
  | .response r => [0x81, r.response.tag, r.response.code, r.response.status] ++ r.response.results
  | .notice c count level first => [0x83, 0x00, byteOf c.number, byteOf count, byteOf level] ++ be32 first
  | .delivery sequence item => [0x82, sequence] ++ item.body

/-- R202: the unescaped content of a frame, its check at the end. -/
def withFrameCheck (bs : List Byte) : List Byte := bs ++ be16 (frameCheck bs).toNat

/-- R147: one content byte as sent. -/
def escapeByte (b : Byte) : List Byte :=
  if b = 0xA5 ∨ b = 0xA6 then [0xA6, b ^^^ 0x20] else [b]

/-- R147, R161: a content on the line, between its two delimiters. -/
def onLine (content : List Byte) : List Byte := [0xA5] ++ content.flatMap escapeByte ++ [0xA5]

/-- R161: the bytes of a frame on TTXD that is not aborted. -/
def FrameContent.lineBytes (f : FrameContent) : List Byte := onLine (withFrameCheck f.kindTagBody)

/-- R146: the levels of one byte on a trunk line, a bit time each: a start bit at space, eight data bits with
the least significant first, and a stop bit at mark. -/
def serialLevels (b : Byte) : List Bool := [false] ++ (byteBits b).reverse ++ [true]

/-- R146: the byte of eight sampled data bits, the least significant first. -/
def serialByte (bits : List Bool) : Byte := byteOf (bits.foldr (fun b n => flagBit b 1 + 2 * n) 0)

/-- R146, R161: the levels of TTXD, a trunk bit time each, from the start bit of a frame's opening delimiter to
the stop bit of its closing delimiter. -/
def FrameContent.lineLevels (f : FrameContent) : List Bool := f.lineBytes.flatMap serialLevels

/-- R157: the bytes of an aborted frame of which `sent` bytes had left the line. -/
def FrameContent.abortedBytes (f : FrameContent) (sent : Nat) : List Byte :=
  f.lineBytes.take sent ++ [0xA6, 0xA5]

end Sys2Proof.Machine
end

