-- ==== Sys2Proof/Machine/Ops.lean ====
section
/-!
DEFINITION. The operations that several blocks share: raising a cause and deciding ATTN (chapter 7), and
offering an item to the delivery stream (section 6.2).
-/

namespace Sys2Proof.Machine

/-! ## Session and causes -/

/-- The session is OPEN (R155). -/
def Session.isOpen : Session → Bool
  | .closed => false
  | .opened _ => true

/-- The state of a cause (R134). -/
def causeState (s : State) (c : Cause) : CauseState := s.alm.causes[c.index]

/-- A cause's state is replaced. -/
def setCause (c : Cause) (k : CauseState) (s : State) : State :=
  { s with alm.causes := s.alm.causes.set c.index k }

/-- The cause is pending (R134). -/
def pendingCause (s : State) (c : Cause) : Bool := (causeState s c).occurrence.isSome

/-- The cause is a member of the notice set (R136). -/
def inNotices (s : State) (c : Cause) : Bool := s.trk.notices[c.index]

/-- The cause joins (`true`) or leaves (`false`) the notice set (R136). -/
def setNotice (c : Cause) (b : Bool) (s : State) : State :=
  { s with trk.notices := s.trk.notices.set c.index b }

/-- The conditions of R136 on which a cause joins the notice set: session OPEN, pending, level 1 or more. -/
def noticeDue (s : State) (c : Cause) : Bool :=
  s.trk.session.isOpen && pendingCause s c && decide (1 ≤ (causeState s c).level)

/-- R136: the cause joins the notice set if its conditions hold. -/
def joinNotice (c : Cause) (s : State) : State :=
  if noticeDue s c then setNotice c true s else s

/-- R141: the level that ATTN is to have: some pending cause has a level not lower than ATTENTION_LEVEL. -/
def attnDue (s : State) : Bool :=
  allCauses.any (fun c => pendingCause s c && decide (s.alm.attentionLevel ≤ (causeState s c).level))

/-- R141: ATTN is decided afresh. -/
def decideAttn (s : State) : State := { s with alm.attn := attnDue s }

/-- R135: a block raises a cause. -/
def raise (c : Cause) (s : State) : State :=
  let k := causeState s c
  match k.occurrence with
  | some o => setCause c { k with occurrence := some { o with count := bumpByte o.count } } s
  | none => decideAttn (joinNotice c (setCause c { k with occurrence := some { count := 1, first := s.now } } s))

/-- R136, R138: every cause that meets the conditions joins the notice set. -/
def joinAllNotices (s : State) : State := allCauses.foldl (fun t c => joinNotice c t) s

/-- R156: how many causes would join the notice set in `joinAllNotices`. -/
def joiningCount (s : State) : Nat := allCauses.countP (fun c => noticeDue s c && !inNotices s c)

/-! ## Offers to the delivery stream -/

/-- The item is a TELEGRAM item. -/
def Item.isTelegram : Item → Bool
  | .telegram _ => true
  | .outcome _ => false

/-- The item is a TELEGRAM item with the URGENT flag (R114). -/
def Item.isUrgent : Item → Bool
  | .telegram t => t.control.urgent
  | .outcome _ => false

/-- Every item of the stream: the window's and the waiting queue's (R113). -/
def DeliveryStream.items (d : DeliveryStream) : List Item := d.window.map SentItem.item ++ d.waiting

/-- R115: TELEGRAM items over the waiting queue and the window together. -/
def DeliveryStream.telegramCount (d : DeliveryStream) : Nat := d.items.countP Item.isTelegram

/-- R115: OUTCOME items over the waiting queue and the window together. -/
def DeliveryStream.outcomeCount (d : DeliveryStream) : Nat := d.items.countP (fun i => !i.isTelegram)

/-- R116: the place of a TELEGRAM item in the waiting queue: an urgent one immediately ahead of the first
waiting item that is not urgent, any other at the tail. -/
def placeTelegram (t : TelegramItem) (queue : List Item) : List Item :=
  if t.control.urgent then
    queue.takeWhile Item.isUrgent ++ Item.telegram t :: queue.dropWhile Item.isUrgent
  else queue ++ [Item.telegram t]

/-- R61, R116: a TELEGRAM item is offered to the stream; with 24 held it is refused and lost. -/
def offerTelegram (t : TelegramItem) (s : State) : State :=
  if 24 ≤ s.dst.telegramCount then
    raise .streamDrop { s with rpf.counters.itemsLost := bump s.rpf.counters.itemsLost }
  else { s with dst.waiting := placeTelegram t s.dst.waiting }

/-- R117: an OUTCOME item joins the tail of the waiting queue and is always taken. -/
def offerOutcome (o : OutcomeItem) (s : State) : State :=
  { s with dst.waiting := s.dst.waiting ++ [.outcome o] }

end Sys2Proof.Machine
end

