-- ==== Sys2Proof/Machine/Table.lean ====
section
/-!
DEFINITION. The station table: lookup, learning and eviction, the sequence judgement (chapter 1).
-/

namespace Sys2Proof.Machine

/-- R5: the occupied entry with this station ID, with its index. -/
def lookup (t : StationTable) (id : StationId) : Option (Fin 64 × Entry) :=
  (List.finRange 64).findSome? (fun i =>
    match t.places[i] with
    | some e => if e.station = id then some (i, e) else none
    | none => none)

/-- A place of the table is filled, replaced or freed. -/
def setPlace (i : Fin 64) (e : Option Entry) (s : State) : State :=
  { s with stab.places := s.stab.places.set i e }

/-- R1: entries used. -/
def StationTable.used (t : StationTable) : Nat :=
  (List.finRange 64).countP (fun i => t.places[i].isSome)

/-- R10, R18: the free place of lowest index. -/
def freePlace (t : StationTable) : Option (Fin 64) :=
  (List.finRange 64).find? (fun i => t.places[i].isNone)

/-- R11: the place holds an entry eligible for eviction. -/
def eligible (t : StationTable) (i : Fin 64) : Bool :=
  t.places[i].any (fun e => e.origin == .learned)

/-- R11: how old an entry is for the choice of eviction; an absent last heard is older than every present
one. -/
def evictionAge (now : PartTime) (t : StationTable) (i : Fin 64) : Nat :=
  match t.places[i].bind Entry.lastHeard with
  | none => 4294967296
  | some heard => age now heard

/-- R11: the eligible entry to evict: the oldest last heard, the lowest index among equals. -/
def evictee (now : PartTime) (t : StationTable) : Option (Fin 64) :=
  firstMax (evictionAge now t) ((List.finRange 64).filter (eligible t))

/-- R10, R18: the place a new entry takes: the free place of lowest index, or the place that an eviction
frees. -/
def placeForNew (now : PartTime) (t : StationTable) : Option (Fin 64) :=
  match freePlace t with
  | some i => some i
  | none => evictee now t

/-- R7: the settings of the learn template. -/
def StationTable.template (t : StationTable) : Settings :=
  { mode := .immediate, gatherMs := 10, repeatMs := t.unknownWindowMs, replyEnabled := false,
    replyDelayMs := 10, copySpacingMs := 0, windowWidthMs := 10 }

/-- R3: an entry as it is created. -/
def newEntry (id : StationId) (origin : Origin) (settings : Settings) : Entry :=
  { station := id, origin := origin, settings := settings, lastSequence := none, lastHeard := none,
    nextDownlinkSeq := 0, accepted := 0, duplicates := 0, stale := 0 }

/-- R9–R13: a learn for a station that has no entry. It answers the state after it and whether an entry
was made. -/
def learn (id : StationId) (s : State) : State × Bool :=
  match placeForNew s.now s.stab with
  | some i =>
    ({ setPlace i (some (newEntry id .learned s.stab.template)) s with
        rpf.counters.learned := bump s.rpf.counters.learned }, true)
  | none =>
    (raise .learnFull { s with rpf.counters.learnFailures := bump s.rpf.counters.learnFailures }, false)

/-- The sequence judgement (R14). -/
inductive Judgement where
  | new
  | lateRepeat
  | stale
  deriving DecidableEq, Repr

/-- R14: the judgement of sequence `q` against an entry's last sequence. -/
def judge (last : Option Byte) (q : Byte) : Judgement :=
  match last with
  | none => .new
  | some p =>
    let d := (q - p).toNat
    if d = 0 then .lateRepeat else if d ≤ 127 then .new else .stale

/-- R15: what a NEW judgement does to the entry. -/
def Entry.heardNew (e : Entry) (q : Byte) (endTime : PartTime) : Entry :=
  { e with lastSequence := some q, lastHeard := some endTime, accepted := bump e.accepted }

/-- R15: what a LATE_REPEAT or STALE judgement does to the entry. -/
def Entry.heardOld (e : Entry) : Entry := { e with stale := bump e.stale }

/-- R16: what a duplicate does to the entry. -/
def Entry.heardAgain (e : Entry) : Entry := { e with duplicates := bump e.duplicates }

/-- R23: an entry after a warm restart. -/
def Entry.restarted (e : Entry) : Entry :=
  { e with lastSequence := none, lastHeard := none, accepted := 0, duplicates := 0, stale := 0 }

end Sys2Proof.Machine
end

