-- ==== Sys2Proof/Machine/Store.lean ====
section
/-!
DEFINITION. The downlink store and the field transmitter: slots, candidates, the arbiter, the first-copy
notification and results (chapters 4 and 5).
-/

namespace Sys2Proof.Machine

/-! ## Slots -/

/-- The downlink that a place holds (R69). -/
def SlotState.downlink : SlotState → Option Downlink
  | .free => none
  | .held d => some d
  | .armed d _ _ => some d
  | .sending d => some d
  | .awaitConfirm d => some d
  | .reporting d _ _ => some d

/-- A non-FREE place of this station (R71). -/
def SlotState.isOf (st : SlotState) (id : StationId) : Bool := st.downlink.any (fun d => d.station == id)

/-- ARMED, SENDING or AWAIT_CONFIRM: an active slot (R87). -/
def SlotState.isActive : SlotState → Bool
  | .armed _ _ _ | .sending _ | .awaitConfirm _ => true
  | .free | .held _ | .reporting _ _ _ => false

/-- HELD (R68). -/
def SlotState.isHeld : SlotState → Bool
  | .held _ => true
  | .free | .armed _ _ _ | .sending _ | .awaitConfirm _ | .reporting _ _ _ => false

/-- SENDING (R68). -/
def SlotState.isSending : SlotState → Bool
  | .sending _ => true
  | .free | .held _ | .armed _ _ _ | .awaitConfirm _ | .reporting _ _ _ => false

/-- REPORTING (R68). -/
def SlotState.isReporting : SlotState → Bool
  | .reporting _ _ _ => true
  | .free | .held _ | .armed _ _ _ | .awaitConfirm _ | .sending _ => false

/-- The state of a slot place. -/
def slotState (s : State) (i : Fin 16) : SlotState := (s.dls.places[i]).state

/-- A place changes state and keeps its generation. -/
def setSlot (i : Fin 16) (st : SlotState) (s : State) : State :=
  { s with dls.places := s.dls.places.set i { s.dls.places[i] with state := st } }

/-- R4, R71: the number of a station's non-FREE slots. -/
def slotCount (s : State) (id : StationId) : Nat :=
  (List.finRange 16).countP (fun i => (slotState s i).isOf id)

/-- The number of places whose state satisfies a test (R68). -/
def countSlots (s : State) (p : SlotState → Bool) : Nat :=
  (List.finRange 16).countP (fun i => p (slotState s i))

/-- R71: the station's active slot. -/
def activeSlot (s : State) (id : StationId) : Option (Fin 16) :=
  (List.finRange 16).find? (fun i => (slotState s i).isOf id && (slotState s i).isActive)

/-- The queue order of a slot's downlink (R69). -/
def slotOrder (s : State) (i : Fin 16) : Nat := (slotState s i).downlink.elim 0 Downlink.order

/-- The indexes of the station's HELD slots, its station queue before ordering (R71). -/
def heldSlots (s : State) (id : StationId) : List (Fin 16) :=
  (List.finRange 16).filter (fun i => (slotState s i).isOf id && (slotState s i).isHeld)

/-- R71: the oldest slot of the station queue. -/
def oldestHeld (s : State) (id : StationId) : Option (Fin 16) := firstMin (slotOrder s) (heldSlots s id)

/-- R90: a HELD slot's position in its station queue, from 1. -/
def queuePosition (s : State) (i : Fin 16) (id : StationId) : Nat :=
  (heldSlots s id).countP (fun j => decide (slotOrder s j < slotOrder s i)) + 1

/-- R69, R73: a queue order later than that of every slot held. -/
def nextOrder (s : State) : Nat := (List.finRange 16).foldl (fun n i => max n (slotOrder s i + 1)) 0

/-! ## The candidate set (R101) -/

/-- A slot leaves the candidate set. -/
def leaveCandidates (i : Fin 16) (s : State) : State :=
  { s with ftx.candidates := s.ftx.candidates.filter (fun j => j != i) }

/-- A slot joins the candidate set, kept as a rising list. -/
def joinCandidates (i : Fin 16) (s : State) : State :=
  { s with ftx.candidates :=
      s.ftx.candidates.filter (fun j => decide (j < i)) ++ i :: s.ftx.candidates.filter (fun j => decide (i < j)) }

/-! ## Grants and the arbiter -/

/-- R95: the transmit snapshot taken at a grant. -/
def takeTxSnapshot (s : State) (d : Downlink) : TxSnapshot :=
  { params := s.ftx.params, checkPoly := s.profile.checkPoly, checkInit := s.profile.checkInit,
    station := d.station, sequence := d.sequence, payload := d.payload }

/-- R80: what a grant does to the downlink. -/
def Downlink.granted (d : Downlink) : Downlink :=
  { d with attemptsLeft := d.attemptsLeft - 1, transmissions := d.transmissions + 1 }

/-- R80, R102: the transmitter grants itself to an ARMED slot; each code begins with a mark (R99). -/
def grant (i : Fin 16) (s : State) : State :=
  match slotState s i with
  | .armed d _ _ =>
    let t := leaveCandidates i (setSlot i (.sending d.granted) s)
    { t with
      dls.counters.transmissions := bump s.dls.counters.transmissions
      ftx.state := .sending (takeTxSnapshot s d) i 0
      ftx.keyLine := true
      ftx.enLine := true
      ftx.counters.started := bump s.ftx.counters.started }
  | .free | .held _ | .sending _ | .awaitConfirm _ | .reporting _ _ _ => s

/-- R102, R103: a candidate that may be granted: ARMED, its window close not passed. At the part time of the
close itself the candidate may still be granted, as long as its WINDOW_CLOSE has not been taken: once that is
taken, the slot is not ARMED. R103 says so of the end of a transmission; that the same holds at every other
decision of the arbiter is DEDUCED (log entry 21). -/
def grantable (s : State) (i : Fin 16) : Bool :=
  match slotState s i with
  | .armed _ _ close => !passed s.now close
  | .free | .held _ | .sending _ | .awaitConfirm _ | .reporting _ _ _ => false

/-- R102, R193: the age of a candidate's window open. -/
def openAge (s : State) (i : Fin 16) : Nat :=
  match slotState s i with
  | .armed _ windowOpen _ => age s.now windowOpen
  | .free | .held _ | .sending _ | .awaitConfirm _ | .reporting _ _ _ => 0

/-- R102: the candidate that the arbiter chooses: the earliest window open, the lowest index among
equals. -/
def arbiterChoice (s : State) : Option (Fin 16) :=
  firstMax (openAge s) (s.ftx.candidates.filter (grantable s))

/-- R102: with the transmitter IDLE, the arbiter grants it to its choice. -/
def arbiter (s : State) : State :=
  match s.ftx.state with
  | .idle =>
    match arbiterChoice s with
    | some i => grant i s
    | none => s
  | .sending _ _ _ | .testing _ | .stopping _ => s

/-- R78, R101: an ARMED slot whose window open is reached is offered to the transmitter. -/
def offerSlot (i : Fin 16) (s : State) : State := arbiter (joinCandidates i s)

/-- R105, R107, R110: the transmitter deasserts its lines, goes IDLE and holds nothing. -/
def goIdle (s : State) : State :=
  { s with ftx.state := .idle, ftx.keyLine := false, ftx.enLine := false }

/-! ## Results (R87) -/

/-- R91: the counter of a result advances. -/
def countResult (r : DownlinkResult) (c : DownlinkCounters) : DownlinkCounters :=
  match r with
  | .confirmed => { c with confirmed := bump c.confirmed }
  | .failed => { c with failed := bump c.failed }
  | .expired => { c with expired := bump c.expired }
  | .expiredSent => { c with expired := bump c.expired }
  | .cancelled => { c with cancelled := bump c.cancelled }
  | .discarded => { c with discarded := bump c.discarded }

/-- R88: the OUTCOME item of a slot. -/
def outcomeOf (i : Fin 16) (generation : Byte) (d : Downlink) (r : DownlinkResult) (time : PartTime) :
    OutcomeItem :=
  { slot := i, generation := generation, hostTag := d.hostTag, station := d.station, sequence := d.sequence,
    result := r, transmissions := d.transmissions, time := time }

/-- R87: the slot, holding `d`, reaches a result: REPORTING, counter, OUTCOME item. -/
def reachResult (i : Fin 16) (d : Downlink) (r : DownlinkResult) (s : State) : State :=
  let t := leaveCandidates i (setSlot i (.reporting d r s.now) s)
  offerOutcome (outcomeOf i (s.dls.places[i]).generation d r s.now)
    { t with dls.counters := countResult r s.dls.counters }

/-- R83: the result of a lifetime deadline outside a transmission. -/
def expiryResult (d : Downlink) : DownlinkResult := if d.transmissions = 0 then .expired else .expiredSent

/-- R79: the window of a slot is missed. -/
def missWindow (i : Fin 16) (d : Downlink) (s : State) : State :=
  let t := leaveCandidates i (setSlot i (.held d) s)
  raise .downlinkMissed { t with dls.counters.missedWindows := bump s.dls.counters.missedWindows }

/-- R89: an OUTCOME item was reported acknowledged or discarded: its place goes to FREE. -/
def freeSlot (i : Fin 16) (s : State) : State := setSlot i .free s

/-! ## The first-copy notification (section 4.3) -/

/-- A first-copy notification (R55). -/
structure FirstCopy where
  station : StationId
  listen : Bool
  remaining : Nat
  confirm : Option Byte
  endTime : PartTime
  deriving DecidableEq, Repr

/-- R75: a confirm that makes no slot CONFIRMED is a stale confirm. -/
def countStaleConfirm (n : FirstCopy) (s : State) : State :=
  if n.confirm.isSome then { s with dls.counters.staleConfirms := bump s.dls.counters.staleConfirms } else s

/-- R74, R75: the confirmation step. -/
def confirmStep (n : FirstCopy) (s : State) : State :=
  match activeSlot s n.station with
  | none => countStaleConfirm n s
  | some i =>
    match slotState s i with
    | .awaitConfirm d =>
      if n.confirm = some d.sequence then reachResult i d .confirmed s
      else if d.attemptsLeft = 0 then reachResult i d .failed (countStaleConfirm n s)
      else setSlot i (.held d) (countStaleConfirm n s)
    | .armed d _ _ => leaveCandidates i (setSlot i (.held d) (countStaleConfirm n s))
    | .sending _ =>
      countStaleConfirm n { s with dls.counters.busyUplinks := bump s.dls.counters.busyUplinks }
    | .free | .held _ | .reporting _ _ _ => s

/-- R77: window open of an armed slot. -/
def windowOpenOf (n : FirstCopy) (e : Settings) : PartTime :=
  after n.endTime (n.remaining * e.copySpacingMs + e.replyDelayMs)

/-- R77: window close of an armed slot. -/
def windowCloseOf (n : FirstCopy) (e : Settings) : PartTime := after (windowOpenOf n e) e.windowWidthMs

/-- R76, R77: slot `i`, HELD with `d`, is armed. A window already closed is missed at once, one already
open makes the slot a candidate at once. -/
def armSlot (i : Fin 16) (d : Downlink) (n : FirstCopy) (e : Settings) (s : State) : State :=
  let t := setSlot i (.armed d (windowOpenOf n e) (windowCloseOf n e)) s
  if reached s.now (windowCloseOf n e) then missWindow i d t
  else if reached s.now (windowOpenOf n e) then offerSlot i t
  else t

/-- R76: the arming step. -/
def armStep (n : FirstCopy) (s : State) : State :=
  match lookup s.stab n.station with
  | none => s
  | some (_, e) =>
    if n.listen && e.settings.replyEnabled && (activeSlot s n.station).isNone then
      match oldestHeld s n.station with
      | none => s
      | some i =>
        match slotState s i with
        | .held d => armSlot i d n e.settings s
        | .free | .armed _ _ _ | .sending _ | .awaitConfirm _ | .reporting _ _ _ => s
    else s

/-- R74: the store takes a first-copy notification: confirmation, then arming. -/
def notifyStore (n : FirstCopy) (s : State) : State := armStep n (confirmStep n s)

/-- R86: one slot meets a discard claim. -/
def discardSlot (id : StationId) (s : State) (i : Fin 16) : State :=
  match slotState s i with
  | .held d | .armed d _ _ | .awaitConfirm d =>
    if d.station = id then reachResult i d .discarded s else s
  | .free | .sending _ | .reporting _ _ _ => s

/-- R86: the store takes a discard claim, in order of slot index. -/
def discardClaim (id : StationId) (s : State) : State := (List.finRange 16).foldl (discardSlot id) s

/-- R178: the number of slots that a discard claim discards. -/
def discardCount (id : StationId) (s : State) : Nat :=
  (List.finRange 16).countP (fun i => match slotState s i with
    | .held d | .armed d _ _ | .awaitConfirm d => d.station == id
    | .free | .sending _ | .reporting _ _ _ => false)

/-! ## Ticks of the transmitter -/

/-- R96, R97, R99: one transmit tick passes in SENDING or STOPPING. -/
def transmitTick (s : State) : State :=
  match s.ftx.state with
  | .sending snap i n =>
    if n < snap.levels.length then
      { s with ftx.state := .sending snap i (n + 1), ftx.keyLine := snap.levels.getD (n + 1) s.ftx.keyLine }
    else s
  | .stopping (_ :: rest) => { s with ftx.state := .stopping rest, ftx.keyLine := rest.headD s.ftx.keyLine }
  | .stopping [] => s
  | .idle => s
  | .testing _ => s

/-- R190: one transmit tick is a number of REFCLK periods, and none passes while REFCLK is stopped. -/
def idleTick (s : State) : State := if s.tbs.refclkRunning then transmitTick s else s

/-- R109: the FTX_KEY levels of the ticks that the cell in progress still has, none when the last check
cell has ended. -/
def cellRemainder (snap : TxSnapshot) (n : Nat) : List Bool :=
  (snap.levels.drop n).take (snap.params.cellTicks - n % snap.params.cellTicks)

end Sys2Proof.Machine
end

