-- ==== Sys2Proof/Machine/Filter.lean ====
section
/-!
DEFINITION. The repeat filter: records, closing, and the handling of one copy (chapter 3).
-/

namespace Sys2Proof.Machine

/-! ## Records -/

/-- The record of a telegram, identified by station ID and sequence (R44). -/
def Record.isOf (r : Record) (id : StationId) (q : Byte) : Bool := r.station == id && r.sequence == q

/-- R48: record match. -/
def findRecord (rs : List Record) (id : StationId) (q : Byte) : Option Record :=
  rs.find? (fun r => r.isOf id q)

/-- The record of a telegram is changed in its place. -/
def mapRecord (id : StationId) (q : Byte) (f : Record → Record) (s : State) : State :=
  { s with rpf.records := s.rpf.records.map (fun r => if r.isOf id q then f r else r) }

/-- The record of a telegram leaves the list. -/
def dropRecord (id : StationId) (q : Byte) (s : State) : State :=
  { s with rpf.records := s.rpf.records.filter (fun r => !r.isOf id q) }

/-- R44: the record is GATHERING. -/
def Record.isGathering (r : Record) : Bool :=
  match r.state with
  | .gathering _ => true
  | .settled => false

/-- R56: the record becomes SETTLED, its gather deadline absent. -/
def Record.settle (r : Record) : Record := { r with state := .settled }

/-- R60: the origin at close. -/
def originAtClose (t : StationTable) (r : Record) : Option Origin :=
  match r.origin with
  | none => none
  | some _ => (lookup t r.station).map (fun p => p.2.origin)

/-- R60: the TELEGRAM item made from a record. -/
def recordItem (r : Record) (origin : Option Origin) (earlyClose : Bool) : TelegramItem :=
  { station := r.station, origin := origin, sequence := r.sequence, control := r.control, confirm := r.confirm,
    payload := r.payload, copies := r.copies, channels := r.channels, bestMargin := r.bestMargin,
    firstEnd := r.firstEnd, conflict := r.conflict, earlyClose := earlyClose }

/-- R56: a GATHERING record closes and produces its item. -/
def closeRecord (r : Record) (earlyClose : Bool) (s : State) : State :=
  offerTelegram (recordItem r (originAtClose s.stab r) earlyClose)
    (mapRecord r.station r.sequence Record.settle s)

/-- R53: a place is made in a full list. -/
def makePlace (s : State) : State :=
  let counted (t : State) : State :=
    raise .rtlPressure { t with rpf.counters.evictions := bump t.rpf.counters.evictions }
  match s.rpf.records.find? (fun r => !r.isGathering) with
  | some r => counted (dropRecord r.station r.sequence s)
  | none =>
    match s.rpf.records with
    | [] => s
    | r :: _ => counted (dropRecord r.station r.sequence (closeRecord r true s))

/-- R59: the records that a closure claim closes, oldest first. -/
def claimedRecords (id : StationId) (s : State) : List Record :=
  s.rpf.records.filter (fun r => r.station == id && r.isGathering)

/-- R59: a closure claim closes every GATHERING record of a station, with origin NONE and EARLY_CLOSE. -/
def closureClaim (id : StationId) (s : State) : State :=
  (claimedRecords id s).foldl (fun t r => offerTelegram (recordItem r none true) t)
    { s with rpf.records := s.rpf.records.map (fun r => if r.station == id then r.settle else r) }

/-! ## The handling of one copy (R47) -/

/-- R45: a channel as channels seen. -/
def Channel.seen : Channel → ChannelsSeen
  | .A => .a
  | .B => .b

/-- R48: channels seen is widened by a channel. -/
def ChannelsSeen.widen (x : ChannelsSeen) (ch : Channel) : ChannelsSeen :=
  match x, ch with
  | .a, .A => .a
  | .b, .B => .b
  | .a, .B => .ab
  | .b, .A => .ab
  | .ab, _ => .ab

/-- R48: a duplicate is counted into its record while the record is GATHERING. -/
def Record.merge (r : Record) (c : Copy) : Record :=
  match r.state with
  | .gathering _ =>
    { r with
      copies := bumpByte r.copies
      channels := r.channels.widen c.channel
      bestMargin := max r.bestMargin c.margin.val }
  | .settled => r

/-- R49: a conflict sets the record's CONFLICT flag. -/
def Record.conflicted (r : Record) : Record := { r with conflict := true }

/-- R54: the state of the record that a copy creates; `e` is the copy's entry, none for a forwarded copy. -/
def creationState (c : Copy) (e : Option Entry) : RecordState :=
  match e with
  | none => .settled
  | some e =>
    if c.urgent then .settled
    else match e.settings.mode with
      | .gather => .gathering (after c.endTime e.settings.gatherMs)
      | .immediate => .settled
      | .block => .settled

/-- R45: the repeat window for a copy's record. -/
def repeatWindowOf (t : StationTable) (e : Option Entry) : Nat :=
  match e with
  | none => t.unknownWindowMs
  | some e => e.settings.repeatMs

/-- R45: the record that an accepted copy creates. -/
def newRecord (c : Copy) (check : Word16) (e : Option Entry) (t : StationTable) : Record :=
  { station := c.station, sequence := c.sequence, check := check, firstEnd := c.endTime,
    state := creationState c e, copies := 1, channels := Channel.seen c.channel, bestMargin := c.margin.val,
    conflict := false, origin := e.map Entry.origin,
    control := { listen := c.listen, urgent := c.urgent, remaining := c.remaining }, confirm := c.confirm,
    payload := c.payload, settleDeadline := after c.endTime (repeatWindowOf t e) }

/-- R55: the notification of an accepted copy. -/
def firstCopyOf (c : Copy) : FirstCopy :=
  { station := c.station, listen := c.listen, remaining := c.remaining.val, confirm := c.confirm,
    endTime := c.endTime }

/-- R51: the record of an accepted copy joins the newest end of the list. -/
def addRecord (r : Record) (s : State) : State := { s with rpf.records := s.rpf.records ++ [r] }

/-- R54: a record created SETTLED produces its item now. -/
def produceNow (r : Record) (s : State) : State :=
  if r.isGathering then s else offerTelegram (recordItem r (originAtClose s.stab r) false) s

/-- R51: acceptance, in its four steps. -/
def accept (c : Copy) (check : Word16) (e : Option Entry) (s : State) : State :=
  let s1 := { s with rpf.counters.accepted := bump s.rpf.counters.accepted }
  let s2 := if 48 ≤ s1.rpf.records.length then makePlace s1 else s1
  let r := newRecord c check e s2.stab
  let s3 := produceNow r (addRecord r s2)
  if e.isSome then notifyStore (firstCopyOf c) s3 else s3

/-- R48: a duplicate. -/
def takeDuplicate (c : Copy) (e : Option (Fin 64 × Entry)) (s : State) : State :=
  let s1 := { s with rpf.counters.duplicates := bump s.rpf.counters.duplicates }
  let s2 := match e with
    | some (i, e) => setPlace i (some e.heardAgain) s1
    | none => s1
  mapRecord c.station c.sequence (fun r => r.merge c) s2

/-- R49: a conflict. -/
def takeConflict (c : Copy) (s : State) : State :=
  mapRecord c.station c.sequence Record.conflicted
    { s with rpf.counters.conflicts := bump s.rpf.counters.conflicts }

/-- R50: a copy with an entry that matches no record is judged. -/
def takeJudged (c : Copy) (check : Word16) (i : Fin 64) (e : Entry) (s : State) : State :=
  match judge e.lastSequence c.sequence with
  | .new =>
    let e' := e.heardNew c.sequence c.endTime
    accept c check (some e') (setPlace i (some e') s)
  | .lateRepeat =>
    { setPlace i (some e.heardOld) s with rpf.counters.lateRepeats := bump s.rpf.counters.lateRepeats }
  | .stale =>
    { setPlace i (some e.heardOld) s with rpf.counters.stale := bump s.rpf.counters.stale }

/-- R47, steps 2 to 4, for a copy that lookup lets through with its entry, or as a forwarded copy. -/
def afterLookup (c : Copy) (e : Option (Fin 64 × Entry)) (s : State) : State :=
  let check := normalisedCheck c s.profile.checkPoly s.profile.checkInit
  match findRecord s.rpf.records c.station c.sequence with
  | some r => if r.check = check then takeDuplicate c e s else takeConflict c s
  | none =>
    match e with
    | some (i, e) => takeJudged c check i e s
    | none => accept c check none s

/-- R47: the repeat filter handles one copy whole. -/
def handleCopy (c : Copy) (s : State) : State :=
  match lookup s.stab c.station with
  | some (i, e) =>
    match e.settings.mode with
    | .block => { s with rpf.counters.blocked := bump s.rpf.counters.blocked }
    | .immediate | .gather => afterLookup c (some (i, e)) s
  | none =>
    match s.stab.policy with
    | .drop => { s with rpf.counters.unknownDropped := bump s.rpf.counters.unknownDropped }
    | .forward => afterLookup c none s
    | .learn =>
      let (s1, made) := learn c.station s
      afterLookup c (if made then lookup s1.stab c.station else none) s1

end Sys2Proof.Machine
end

