-- ==== Sys2Proof/Machine/Receivers.lean ====
section
/-!
DEFINITION. The field receivers: cell timing under the three line codes, the receive states, errors,
margin and the hand-over of copies (chapter 2).
-/

namespace Sys2Proof.Machine

/-! ## Access to one receiver -/

/-- The receiver of a channel. -/
def receiver (s : State) (ch : Channel) : Receiver :=
  match ch with
  | .A => s.fra
  | .B => s.frb

/-- The receiver of a channel is replaced. -/
def setReceiver (ch : Channel) (r : Receiver) (s : State) : State :=
  match ch with
  | .A => { s with fra := r }
  | .B => { s with frb := r }

/-- The receive state of a channel. -/
def rxState (s : State) (ch : Channel) : RxState := (receiver s ch).state

/-- A receiver changes state. -/
def setRxState (ch : Channel) (st : RxState) (s : State) : State :=
  setReceiver ch { receiver s ch with state := st } s

/-- A receiver's counters change. -/
def countRx (ch : Channel) (f : RxCounters → RxCounters) (s : State) : State :=
  setReceiver ch { receiver s ch with counters := f (receiver s ch).counters } s

/-- R24: the enable of a channel. -/
def RxProfile.enabled (p : RxProfile) (ch : Channel) : Bool :=
  match ch with
  | .A => p.enableA
  | .B => p.enableB

/-- R25: the profile snapshot that a receiver takes now. -/
def RxProfile.snapshot (p : RxProfile) : RxSnapshot :=
  { code := p.code, bitTimeUs := p.bitTimeUs, preambleMin := p.preambleMin, sync := p.sync,
    checkPoly := p.checkPoly, checkInit := p.checkInit, maxLength := p.maxLength }

/-- The receiver is not DISABLED. -/
def RxState.isEnabled : RxState → Bool
  | .disabled => false
  | .hunt _ | .preamble _ _ | .sync _ _ _ _ | .body _ _ _ _ _ => true

/-- A partial telegram is in progress: PREAMBLE, SYNC or BODY (R38). -/
def RxState.inTelegram : RxState → Bool
  | .disabled | .hunt _ => false
  | .preamble _ _ | .sync _ _ _ _ | .body _ _ _ _ _ => true

/-! ## Losses and errors -/

/-- R40: preamble lost advances. -/
def RxCounters.losePreamble (c : RxCounters) : RxCounters := { c with preambleLost := bump c.preambleLost }

/-- R40: sync missing advances. -/
def RxCounters.missSync (c : RxCounters) : RxCounters := { c with syncMissing := bump c.syncMissing }

/-- R40: copies delivered advances. -/
def RxCounters.deliver (c : RxCounters) : RxCounters := { c with copiesDelivered := bump c.copiesDelivered }

/-- R38: abandoned advances. -/
def RxCounters.abandon (c : RxCounters) : RxCounters := { c with abandoned := bump c.abandoned }

/-- R33–R35, R40: the counter of a BODY error advances. -/
def RxCounters.error (c : RxCounters) : BodyError → RxCounters
  | .codeViolation => { c with codeViolations := bump c.codeViolations }
  | .length => { c with lengthErrors := bump c.lengthErrors }
  | .check => { c with checkErrors := bump c.checkErrors }
  | .format => { c with formatErrors := bump c.formatErrors }

/-- The receiver returns to HUNT with no candidate cell and no snapshot. -/
def toHunt (ch : Channel) (s : State) : State := setRxState ch (.hunt none) s

/-- R30, R31, R32: a candidate or a preamble is lost. -/
def losePreamble (ch : Channel) (s : State) : State := toHunt ch (countRx ch RxCounters.losePreamble s)

/-- R32: the sync word is missing. -/
def missSync (ch : Channel) (s : State) : State := toHunt ch (countRx ch RxCounters.missSync s)

/-- R142: a receiver error reaches the alarm block. Only the error that takes the burst count to
ERROR_BURST_LIMIT raises the cause. -/
def reportReceiverError (s : State) : State :=
  let t := { s with alm.burstCount := bumpByte s.alm.burstCount }
  if s.alm.burstCount < 255 ∧ s.alm.burstCount + 1 = s.alm.errorBurstLimit then raise .rxErrorBurst t else t

/-- R41: the receiver declares an error in BODY. -/
def bodyError (ch : Channel) (e : BodyError) (s : State) : State :=
  reportReceiverError (toHunt ch (countRx ch (fun c => c.error e) s))

/-- A code violation at a receiver: a lost candidate in HUNT (R30), a lost preamble in PREAMBLE and SYNC
(R31, R32), a code-violation error in BODY (R33). -/
def violation (ch : Channel) (s : State) : State :=
  match rxState s ch with
  | .disabled => s
  | .hunt _ => losePreamble ch s
  | .preamble _ _ => losePreamble ch s
  | .sync _ _ _ _ => losePreamble ch s
  | .body _ _ _ _ _ => bodyError ch .codeViolation s

/-- R36: the hand-over of a copy: copies delivered advances, the receiver returns to HUNT, and the repeat
filter handles the copy. -/
def handOver (c : Copy) (s : State) : State :=
  handleCopy c (toHunt c.channel (countRx c.channel RxCounters.deliver s))

/-! ## Decoded cells (R30–R37) -/

/-- R37: the margin of a copy with this soft-cell count. -/
def marginOf (softCells : Nat) : Fin 16 := ⟨15 - softCells, by omega⟩

/-- R34, R35, R36: the second check byte is complete; `bytes` are all bytes from the length byte on. -/
def endTelegram (ch : Channel) (t : Tracking) (bytes : List Byte) (reg : Word16) (s : State) : State :=
  let len := (bytes.headD 0).toNat
  let body := (bytes.drop 1).take len
  let received := BitVec.ofNat 16 (num16 (bytes.getD (len + 1) 0) (bytes.getD (len + 2) 0))
  if reg ≠ received then bodyError ch .check s
  else match readUplink body with
    | none => bodyError ch .format s
    | some u =>
      handOver
        { channel := ch, station := u.station, sequence := u.sequence, listen := u.control.listen,
          urgent := u.control.urgent, remaining := u.control.remaining, confirm := u.confirm,
          payload := u.payload, check := received, endTime := s.now, margin := marginOf t.softCells } s

/-- R33, R34: a cell decoded in BODY. -/
def bodyCell (ch : Channel) (t : Tracking) (bytes : List Byte) (cur : Byte) (nbits : Nat) (reg : Word16)
    (bit : Bool) (s : State) : State :=
  let inCheck := bytes.isEmpty || decide (bytes.length ≤ (bytes.headD 0).toNat)
  let reg' := if inCheck then checkBit t.snap.checkPoly reg bit else reg
  let cur' : Byte := (cur <<< 1) ||| (if bit then 1 else 0)
  if nbits < 7 then setRxState ch (.body t bytes cur' (nbits + 1) reg') s
  else
    let bytes' := bytes ++ [cur']
    let len := (bytes'.headD 0).toNat
    if bytes.isEmpty ∧ ¬ (5 ≤ len ∧ len ≤ t.snap.maxLength) then bodyError ch .length s
    else if bytes'.length = len + 3 then endTelegram ch t bytes' reg' s
    else setRxState ch (.body t bytes' 0 0 reg') s

/-- A cell with this bit and class is decoded by a receiver; `time` is the observed place of its reference
edge (R26, R30–R33). -/
def decodedCell (ch : Channel) (bit soft : Bool) (time : Nat) (s : State) : State :=
  let one := if soft then 1 else 0
  let next (t : Tracking) : Tracking := { t with cellRef := time, progress := .fresh }
  match rxState s ch with
  | .disabled => s
  | .hunt _ =>
    if bit then toHunt ch s
    else setRxState ch
      (.preamble { snap := s.profile.snapshot, cellRef := time, progress := .fresh, softCells := one } 1) s
  | .preamble t count =>
    if bit then losePreamble ch s
    else
      let t' := { next t with softCells := t.softCells + one }
      if t.snap.preambleMin ≤ count + 1 then setRxState ch (.sync t' 0 (List.replicate 16 false) 0) s
      else setRxState ch (.preamble t' (count + 1)) s
  | .sync t bits softs count =>
    let bits' : Word16 := (bits <<< 1) ||| (if bit then 1 else 0)
    let softs' := softs.tail ++ [soft]
    let count' := if count = 0 then (if bit then 1 else 0) else count + 1
    if bits' = t.snap.sync then
      setRxState ch
        (.body { next t with softCells := t.softCells + softs'.count true } [] 0 0 t.snap.checkInit) s
    else if 32 ≤ count' then missSync ch s
    else setRxState ch (.sync (next t) bits' softs' count') s
  | .body t bytes cur nbits reg =>
    bodyCell ch { next t with softCells := t.softCells + one } bytes cur nbits reg bit s

/-! ## Edges and windows (R26–R30) -/

/-- What an edge, or the absence of one, comes to: the cell is not decided yet, a cell is decided, or a
code violation. -/
inductive CellVerdict where
  | waiting (p : CellProgress)
  | cell (bit soft : Bool) (ref : Nat)
  | violation
  deriving DecidableEq, Repr

/-- R26: an edge `d` periods after the reference is soft: it lies outside the clean band from `lo`/24 to
`hi`/24 of the bit time. -/
def softEdge (tb : TimeBase) (us lo hi d : Nat) : Bool :=
  !(decide (tb.place24 us lo ≤ d) && decide (d ≤ tb.place24 us hi))

/-- R27: an edge under MANCHESTER. -/
def manchesterEdge (tb : TimeBase) (us ref : Nat) (p : CellProgress) (rising : Bool) (time : Nat) :
    CellVerdict :=
  let d := time - ref
  if d < tb.place24 us 6 then .violation
  else if d < tb.place24 us 18 then
    match p with
    | .boundarySeen => .violation
    | .fresh | .started _ _ => .waiting .boundarySeen
  else if d ≤ tb.place24 us 30 then .cell rising (softEdge tb us 21 27 d) time
  else .violation

/-- R28: an edge under BIPHASE_MARK. -/
def biphaseEdge (tb : TimeBase) (us ref : Nat) (p : CellProgress) (time : Nat) : CellVerdict :=
  match p with
  | .started start soft =>
    let d := time - start
    if d < tb.place24 us 6 then .violation
    else if d ≤ tb.place24 us 18 then .cell true (soft || softEdge tb us 9 15 d) start
    else .violation
  | .fresh | .boundarySeen =>
    let d := time - ref
    if d ≤ tb.place24 us 18 then .violation
    else if d ≤ tb.place24 us 30 then .waiting (.started time (softEdge tb us 21 27 d))
    else .violation

/-- R29: an edge under PULSE_WIDTH. -/
def pulseEdge (tb : TimeBase) (us ref : Nat) (p : CellProgress) (rising : Bool) (time : Nat) : CellVerdict :=
  match p with
  | .started start soft =>
    let d := time - start
    if rising then .violation
    else if d < tb.place24 us 2 then .violation
    else if d < tb.place24 us 12 then .cell false (soft || softEdge tb us 5 11 d) start
    else if d ≤ tb.place24 us 22 then .cell true (soft || softEdge tb us 13 19 d) start
    else .violation
  | .fresh | .boundarySeen =>
    let d := time - ref
    if !rising then .violation
    else if d < tb.place24 us 18 then .violation
    else if d ≤ tb.place24 us 30 then .waiting (.started time (softEdge tb us 21 27 d))
    else .violation

/-- R27–R29: an edge under a line code with a bit time of `us` microseconds. -/
def edgeVerdict (tb : TimeBase) (code : LineCode) (us ref : Nat) (p : CellProgress) (rising : Bool)
    (time : Nat) : CellVerdict :=
  match code with
  | .manchester => manchesterEdge tb us ref p rising time
  | .biphaseMark => biphaseEdge tb us ref p time
  | .pulseWidth => pulseEdge tb us ref p rising time

/-- R26–R29: no edge has come up to and including `time`: a window that has ended decides. -/
def quietVerdict (tb : TimeBase) (code : LineCode) (us ref : Nat) (p : CellProgress) (time : Nat) :
    CellVerdict :=
  match code, p with
  | .biphaseMark, .started start soft =>
    if tb.place24 us 18 ≤ time - start then .cell false soft start else .waiting p
  | .pulseWidth, .started start _ => if tb.place24 us 22 ≤ time - start then .violation else .waiting p
  | .manchester, _ | .biphaseMark, _ | .pulseWidth, _ =>
    if tb.place24 us 30 ≤ time - ref then .violation else .waiting p

/-- What a receiver has seen of the cell after the reference is recorded. -/
def setProgress (ch : Channel) (p : CellProgress) (s : State) : State :=
  match rxState s ch with
  | .disabled | .hunt _ => s
  | .preamble t count => setRxState ch (.preamble { t with progress := p } count) s
  | .sync t bits softs count => setRxState ch (.sync { t with progress := p } bits softs count) s
  | .body t bytes cur nbits reg => setRxState ch (.body { t with progress := p } bytes cur nbits reg) s

/-- A receiver acts on a verdict. -/
def applyVerdict (ch : Channel) (v : CellVerdict) (s : State) : State :=
  match v with
  | .waiting p => setProgress ch p s
  | .cell bit soft ref => decodedCell ch bit soft ref s
  | .violation => violation ch s

/-- The cell that the receiver is timing: its code, bit time, cell reference and progress. In HUNT it is
the candidate cell, started at its anchoring edge (R25, R30). -/
def timedCell (st : RxState) : Option (LineCode × Nat × Nat × CellProgress) :=
  match st with
  | .disabled => none
  | .hunt none => none
  | .hunt (some c) => some (c.code, c.bitTimeUs, c.anchor, .started c.anchor false)
  | .preamble t _ | .sync t _ _ _ | .body t _ _ _ _ => some (t.snap.code, t.snap.bitTimeUs, t.cellRef, t.progress)

/-- R30: an edge in HUNT with no candidate cell. -/
def anchorEdge (ch : Channel) (rising : Bool) (time : Nat) (s : State) : State :=
  let candidate := setRxState ch
    (.hunt (some { anchor := time, code := s.profile.code, bitTimeUs := s.profile.bitTimeUs })) s
  match s.profile.code with
  | .manchester => if rising then s else decodedCell ch false false time s
  | .biphaseMark => candidate
  | .pulseWidth => if rising then candidate else s

/-- The line has shown no further edge up to and including `time`: at most one window that ends there
decides. -/
def quietOnce (ch : Channel) (time : Nat) (s : State) : State :=
  match timedCell (rxState s ch) with
  | none => s
  | some (code, us, ref, p) => applyVerdict ch (quietVerdict s.tbs code us ref p time) s

/-- The line has shown no further edge up to and including `time`. A cell decided at the end of its middle
window can be followed by a missing start edge, so two windows may end. A window that has ended is decided by the
command that says so, at the part time and with the parameters of that command: DESIGN CHOICE (log entry 23). -/
def lineQuiet (ch : Channel) (time : Nat) (s : State) : State := quietOnce ch time (quietOnce ch time s)

/-- One edge of the field line: windows that ended before it decide first (log entry 17), at the part time and with
the parameters of this command. The part decides a window at its end (R37), so a `quiet` command belongs there:
DESIGN CHOICE (log entry 23). -/
def lineEdge (ch : Channel) (rising : Bool) (time : Nat) (s : State) : State :=
  let t := lineQuiet ch (time - 1) s
  match rxState t ch with
  | .disabled => t
  | .hunt none => anchorEdge ch rising time t
  | .hunt (some _) | .preamble _ _ | .sync _ _ _ _ | .body _ _ _ _ _ =>
    match timedCell (rxState t ch) with
    | none => t
    | some (code, us, ref, p) => applyVerdict ch (edgeVerdict t.tbs code us ref p rising time) t

/-! ## Enables (section 2.4) -/

/-- R38: an enable is set to off. -/
def disableReceiver (ch : Channel) (s : State) : State :=
  let counted := if (rxState s ch).inTelegram then countRx ch RxCounters.abandon s else s
  setRxState ch .disabled counted

/-- R39: an enable is set to on. -/
def enableReceiver (ch : Channel) (s : State) : State :=
  if (rxState s ch).isEnabled then s else toHunt ch s

/-- R43: a receiver after a warm restart. -/
def restartedReceiver (enabled : Bool) : Receiver :=
  { state := if enabled then .hunt none else .disabled, counters := zeroRxCounters }

end Sys2Proof.Machine
end

