-- ==== Sys2Proof/Machine/Stream.lean ====
section
/-!
DEFINITION. The delivery stream: sending, acknowledgement, the retransmit timer, close and open
(chapter 6).
-/

namespace Sys2Proof.Machine

/-- R122: the deadline of a retransmit timer that starts now. -/
def ackDeadline (s : State) : PartTime := after s.now s.dst.ackTimeoutMs

/-- An item of the window waits to be sent again (R119). -/
def resendWaiting (d : DeliveryStream) : Bool := d.window.any SentItem.resendPending

/-- R119: the stream has a stream frame eligible. -/
def streamEligible (s : State) : Bool :=
  s.trk.session.isOpen && (s.dst.state == .running) &&
    (resendWaiting s.dst || (!s.dst.waiting.isEmpty && decide (s.dst.window.length < 8)))

/-- R120: the mark of the oldest item that has resend pending is cleared. -/
def clearFirstPending : List SentItem → List SentItem
  | [] => []
  | w :: ws => if w.resendPending then { w with resendPending := false } :: ws else w :: clearFirstPending ws

/-- R120, R122: a send starts the retransmit timer if it is stopped. -/
def startTimer (s : State) : State :=
  match s.dst.timer with
  | some _ => s
  | none => { s with dst.timer := some (ackDeadline s) }

/-- R120: the stream chooses the item of a stream frame and sends it. It answers the delivery sequence and
the item of the frame, and none when there is nothing to send. -/
def streamSend (s : State) : Option ((Byte × Item) × State) :=
  match s.dst.window.find? SentItem.resendPending with
  | some w =>
    some ((w.sequence, w.item), startTimer
      { s with
        dst.window := clearFirstPending s.dst.window
        dst.counters.resends := bump s.dst.counters.resends })
  | none =>
    match s.dst.waiting with
    | [] => none
    | it :: rest =>
      some ((s.dst.nextSequence, it), startTimer
        { s with
          dst.waiting := rest
          dst.window := s.dst.window ++ [{ item := it, sequence := s.dst.nextSequence, resendPending := false }]
          dst.nextSequence := s.dst.nextSequence + 1
          dst.counters.itemsSent := bump s.dst.counters.itemsSent })

/-! ## Acknowledgement -/

/-- R123: the oldest unacknowledged delivery sequence, or the next one when the window is empty. -/
def oldestSequence (d : DeliveryStream) : Byte :=
  match d.window with
  | [] => d.nextSequence
  | w :: _ => w.sequence

/-- R123: the number of items that next-expected `n` acknowledges when it is valid. -/
def ackCount (d : DeliveryStream) (n : Byte) : Nat := (n - oldestSequence d).toNat

/-- R123: an ACK with next-expected `n` is valid. -/
def ackValid (s : State) (n : Byte) : Bool :=
  s.trk.session.isOpen && decide (ackCount s.dst n ≤ s.dst.window.length)

/-- R89, R124, R130: an item leaves the stream acknowledged or discarded: an OUTCOME item frees its slot. -/
def releaseItem (s : State) (it : Item) : State :=
  match it with
  | .telegram _ => s
  | .outcome o => freeSlot o.slot s

/-- R124: the `a` oldest items of the window are removed. -/
def removeAcked (a : Nat) (s : State) : State :=
  ((s.dst.window.take a).map SentItem.item).foldl releaseItem
    { s with
      dst.window := s.dst.window.drop a
      dst.counters.acknowledged := bumpBy (s.dst.window.take a).length s.dst.counters.acknowledged }

/-- R125, R127: every item of the window is marked resend pending. -/
def markAll (ws : List SentItem) : List SentItem := ws.map (fun w => { w with resendPending := true })

/-- R123–R126: the stream judges an ACK. -/
def takeAck (n : Byte) (s : State) : State :=
  if ackValid s n then
    let a := ackCount s.dst n
    let t := removeAcked a s
    match s.dst.state with
    | .running =>
      if a = 0 then t
      else
        { t with
          dst.timeoutCount := 0
          dst.timer := if t.dst.window.isEmpty then none else some (ackDeadline s) }
    | .stalled =>
      { t with
        dst.state := .running
        dst.window := markAll t.dst.window
        dst.timeoutCount := 0
        dst.timer := none }
  else { s with dst.counters.badAcks := bump s.dst.counters.badAcks }

/-! ## Timer expiry -/

/-- R127: the retransmit timer expires. -/
def timerExpires (s : State) : State :=
  let k := s.dst.timeoutCount + 1
  if k < s.dst.stallLimit then
    { s with dst.timer := none, dst.timeoutCount := k, dst.window := markAll s.dst.window }
  else
    raise .linkStall
      { s with
        dst.timer := none
        dst.timeoutCount := k
        dst.state := .stalled
        dst.counters.stalls := bump s.dst.counters.stalls }

/-! ## Session close and open -/

/-- R129: the stream at session close. -/
def streamClose (s : State) : State :=
  { s with
    dst.waiting := s.dst.window.map SentItem.item ++ s.dst.waiting
    dst.window := []
    dst.timer := none
    dst.state := .running
    dst.timeoutCount := 0 }

/-- R130: the stream at session open. -/
def streamOpen (mode : OpenMode) (s : State) : State :=
  let t := match mode with
    | .resume => s
    | .fresh =>
      s.dst.waiting.foldl releaseItem
        { s with
          dst.waiting := []
          dst.counters.droppedAtFresh :=
            bumpBy (s.dst.waiting.countP Item.isTelegram) s.dst.counters.droppedAtFresh }
  { t with dst.nextSequence := 0, dst.state := .running, dst.timeoutCount := 0 }

end Sys2Proof.Machine
end

