-- ==== Sys2Proof/Machine/Sessions.lean ====
section
/-!
DEFINITION. Session close and open (section 8.4), the idle deadline (section 8.5) and the warm restart
(section 9.3).
-/

namespace Sys2Proof.Machine

/-! ## The idle deadline -/

/-- R159: the idle deadline that an event now sets: absent when SESSION_IDLE_S is 0. -/
def idleDeadlineNow (s : State) : Option PartTime :=
  if s.trk.sessionIdleS = 0 then none else some (after s.now (s.trk.sessionIdleS * 1000))

/-- R159: the idle measurement starts afresh while the session is OPEN. -/
def restartIdle (s : State) : State :=
  match s.trk.session with
  | .closed => s
  | .opened _ => { s with trk.session := .opened (idleDeadlineNow s) }

/-! ## Close -/

/-- A frame that a session close aborts: DELIVERY or NOTICE (R157). -/
def FrameContent.isTraffic : FrameContent → Bool
  | .response _ => false
  | .notice _ _ _ _ => true
  | .delivery _ _ => true

/-- R157, step 4: a DELIVERY or NOTICE frame on the line is aborted. -/
def abortLine (s : State) : State :=
  match s.trk.line with
  | none => s
  | some f =>
    if f.content.isTraffic && !f.aborted then
      { s with
        trk.line := some { f with aborted := true }
        trk.counters.framesAborted := bump s.trk.counters.framesAborted }
    else s

/-- R157: the session closes; a session already CLOSED stays as it is. -/
def closeSession (s : State) : State :=
  match s.trk.session with
  | .closed => s
  | .opened _ =>
    abortLine (streamClose
      { s with
        trk.session := .closed
        trk.streamWait := 0
        trk.notices := Vector.replicate 8 false })

/-! ## Open -/

/-- R156: the session opens, once it is CLOSED. -/
def openClosedSession (mode : OpenMode) (s : State) : State :=
  let t := joinAllNotices (streamOpen mode
    { s with
      trk.session := .opened none
      trk.streamWait := 0
      trk.counters.opens := bump s.trk.counters.opens })
  { t with trk.cache := [], trk.session := .opened (idleDeadlineNow s) }

/-- R156: OPEN-SESSION carried out: the session closes if it is OPEN, and opens. -/
def openSession (mode : OpenMode) (s : State) : State := openClosedSession mode (closeSession s)

/-- R156: the results of OPEN-SESSION, from the state before it. -/
def openResults (mode : OpenMode) (s : State) : List Byte :=
  let c := closeSession s
  let o := openSession mode s
  let joined := joiningCount { c with trk.session := .opened none }
  let dropped := match mode with
    | .resume => 0
    | .fresh => c.dst.telegramCount
  let discarded := match mode with
    | .resume => 0
    | .fresh => c.dst.outcomeCount
  [mode.code, yesNo s.trk.session.isOpen, byteOf o.dst.telegramCount, byteOf o.dst.outcomeCount,
    byteOf dropped, byteOf discarded, byteOf joined]

/-! ## Warm restart -/

/-- R109, R111, R112: the transmitter at a warm restart. A transmission goes to STOPPING with its cell in
progress; when its last check cell has already ended, it goes IDLE at once (R110). -/
def restartedTransmitter (x : Transmitter) : Transmitter :=
  let counters : TransmitCounters := { started := 0, completed := 0, aborted := 0, tests := 0 }
  match x.state with
  | .idle => { x with candidates := [], counters := counters }
  | .testing _ => { x with state := .idle, keyLine := false, enLine := false, candidates := [], counters := counters }
  | .stopping _ => { x with candidates := [], counters := counters }
  | .sending snap _ n =>
    match cellRemainder snap n with
    | [] =>
      { x with
        state := .idle, keyLine := false, enLine := false, candidates := [],
        counters := { counters with aborted := 1 } }
    | cell =>
      { x with state := .stopping cell, candidates := [], counters := { counters with aborted := 1 } }

/-- R145: every cause is cleared and keeps its level. -/
def clearAllCauses (s : State) : State :=
  { s with
    alm.causes := s.alm.causes.map (fun k => { k with occurrence := none })
    trk.notices := Vector.replicate 8 false }

/-- R145: the alarm block at a warm restart: causes cleared, burst count 0, re-notify deadline set afresh,
then RESTARTED raised and ATTN decided. -/
def restartAlarm (s : State) : State :=
  let t := clearAllCauses s
  decideAttn (raise .restarted
    { t with
      alm.burstCount := 0
      alm.renotifyDeadline := after s.now (s.alm.renotifyS * 1000) })

/-- R173: the warm restart, one event of the whole part. The request engine's state is its own (R166). -/
def warmRestart (s : State) : State :=
  restartAlarm
    { s with
      fra := restartedReceiver s.profile.enableA
      frb := restartedReceiver s.profile.enableB
      stab.places := s.stab.places.map (fun p => p.map Entry.restarted)
      rpf := resetFilter
      dls.places := s.dls.places.map (fun p => { p with state := .free })
      dls.counters := zeroDownlinkCounters
      ftx := restartedTransmitter s.ftx
      dst.waiting := []
      dst.window := []
      dst.nextSequence := 0
      dst.timer := none
      dst.state := .running
      dst.timeoutCount := 0
      dst.counters := zeroStreamCounters
      trk.responses := []
      trk.cache := []
      trk.streamWait := 0
      trk.counters := zeroTrunkCounters }

/-- R158, R160, R166: the trunk link reports the response of a CLOSE-SESSION or WARM-RESTART sent or
finished: the request engine performs a warm restart that was waiting, and goes to READY. -/
def engineReleased (s : State) : State :=
  match s.mre with
  | .ready => s
  | .closing => { s with mre := .ready }
  | .restarting => { warmRestart s with mre := .ready }

end Sys2Proof.Machine
end

