-- ==== Sys2Proof/Machine/Requests.lean ====
section
/-!
DEFINITION. The nineteen management requests: arguments, checks, effects and results (chapter 9, R203,
R204). Each request is a function of the bytes after its code; it answers the reply and the state after.
-/

namespace Sys2Proof.Machine

/-- A reply: the status and the results (R168). -/
structure Reply where
  status : Status
  results : List Byte
  deriving DecidableEq, Repr

/-- R168: a refusal carries no results and leaves the state as it was. -/
def refuse (st : Status) (s : State) : Reply × State := ({ status := st, results := [] }, s)

/-- A request carried out. -/
def done (results : List Byte) (s : State) : Reply × State := ({ status := .ok, results := results }, s)

/-! ## Session and status requests (section 9.2) -/

/-- R156, R169: OPEN-SESSION. -/
def reqOpenSession (args : List Byte) (s : State) : Reply × State :=
  match args with
  | [m] =>
    match openModeOf m with
    | none => refuse .badValue s
    | some mode => done (openResults mode s) (openSession mode s)
  | _ => refuse .badFormat s

/-- R170: CLOSE-SESSION: answered OK, and the request engine goes to CLOSING (R166). -/
def reqCloseSession (args : List Byte) (s : State) : Reply × State :=
  match args with
  | [] => done [] { s with mre := .closing }
  | _ => refuse .badFormat s

/-- R171: the set of pending causes as a byte, bit n − 1 for cause n. -/
def pendingByte (s : State) : Byte :=
  byteOf (allCauses.foldl (fun n c => n + flagBit (pendingCause s c) (2 ^ c.index.val)) 0)

/-- R171, R204: the results of GET-STATUS. -/
def statusResults (s : State) : List Byte :=
  [0x47, 0x06, 0x01, s.trk.session.code, s.dst.state.code, byteOf s.stab.used, byteOf s.rpf.records.length,
    byteOf (countSlots s (fun st => st.downlink.isNone)), byteOf (countSlots s SlotState.isHeld),
    byteOf (countSlots s (fun st => st.code == 0x02)), byteOf (countSlots s SlotState.isSending),
    byteOf (countSlots s (fun st => st.code == 0x04)), byteOf (countSlots s SlotState.isReporting),
    byteOf s.dst.waiting.length, byteOf s.dst.window.length, byteOf s.dst.telegramCount,
    byteOf s.dst.outcomeCount, s.dst.nextSequence, byteOf s.dst.timeoutCount, pendingByte s] ++ be32 s.now

/-- R171: GET-STATUS. -/
def reqGetStatus (args : List Byte) (s : State) : Reply × State :=
  match args with
  | [] => done (statusResults s) s
  | _ => refuse .badFormat s

/-- R172: WARM-RESTART: answered OK, and the request engine goes to RESTARTING (R166). -/
def reqWarmRestart (args : List Byte) (s : State) : Reply × State :=
  match args with
  | [] => done [] { s with mre := .restarting }
  | _ => refuse .badFormat s

/-! ## Parameters (section 9.4) -/

/-- R176: the present value of a parameter, as encoded (R207). -/
def getParam (p : Param) (s : State) : Nat :=
  match p with
  | .unknownPolicy => s.stab.policy.num
  | .unknownWindowMs => s.stab.unknownWindowMs
  | .rxCode => s.profile.code.num
  | .rxBitTimeUs => s.profile.bitTimeUs
  | .rxPreambleMin => s.profile.preambleMin
  | .rxSync => s.profile.sync.toNat
  | .rxCheckPoly => s.profile.checkPoly.toNat
  | .rxCheckInit => s.profile.checkInit.toNat
  | .rxMaxLength => s.profile.maxLength
  | .rxEnableA => flagBit s.profile.enableA 1
  | .rxEnableB => flagBit s.profile.enableB 1
  | .txTickUs => s.ftx.params.tickUs
  | .txCode => s.ftx.params.code.num
  | .txHalfBitTicks => s.ftx.params.halfBitTicks
  | .txPreambleBits => s.ftx.params.preambleBits
  | .txSync => s.ftx.params.sync.toNat
  | .ackTimeoutMs => s.dst.ackTimeoutMs
  | .stallLimit => s.dst.stallLimit
  | .sessionIdleS => s.trk.sessionIdleS
  | .renotifyS => s.alm.renotifyS
  | .attentionLevel => s.alm.attentionLevel
  | .errorBurstLimit => s.alm.errorBurstLimit
  | .level c => (causeState s c).level

/-- R38, R39: RX_ENABLE_A or RX_ENABLE_B is set. -/
def setEnable (ch : Channel) (on : Bool) (s : State) : State :=
  let t := match ch with
    | .A => { s with profile.enableA := on }
    | .B => { s with profile.enableB := on }
  if on then enableReceiver ch t else disableReceiver ch t

/-- R139: the level of a cause changes. -/
def setLevel (c : Cause) (v : Nat) (s : State) : State :=
  let old := (causeState s c).level
  let t := setCause c { causeState s c with level := v } s
  decideAttn
    (if v = 0 then setNotice c false t
     else if old = 0 then joinNotice c t
     else t)

/-- R175: a parameter is set to an encoded value in its range, with the effect its owner's rule gives. -/
def setParam (p : Param) (v : Nat) (s : State) : State :=
  match p with
  | .unknownPolicy => { s with stab.policy := policyOf v }
  | .unknownWindowMs => { s with stab.unknownWindowMs := v }
  | .rxCode => { s with profile.code := lineCodeOf v }
  | .rxBitTimeUs => { s with profile.bitTimeUs := v }
  | .rxPreambleMin => { s with profile.preambleMin := v }
  | .rxSync => { s with profile.sync := BitVec.ofNat 16 v }
  | .rxCheckPoly => { s with profile.checkPoly := BitVec.ofNat 16 v }
  | .rxCheckInit => { s with profile.checkInit := BitVec.ofNat 16 v }
  | .rxMaxLength => { s with profile.maxLength := v }
  | .rxEnableA => setEnable .A (v == 1) s
  | .rxEnableB => setEnable .B (v == 1) s
  | .txTickUs => { s with ftx.params.tickUs := v }
  | .txCode => { s with ftx.params.code := txCodeOf v }
  | .txHalfBitTicks => { s with ftx.params.halfBitTicks := v }
  | .txPreambleBits => { s with ftx.params.preambleBits := v }
  | .txSync => { s with ftx.params.sync := BitVec.ofNat 16 v }
  | .ackTimeoutMs => { s with dst.ackTimeoutMs := v }
  | .stallLimit => { s with dst.stallLimit := v }
  | .sessionIdleS => restartIdle { s with trk.sessionIdleS := v }
  | .renotifyS => { s with alm.renotifyS := v }
  | .attentionLevel => decideAttn { s with alm.attentionLevel := v }
  | .errorBurstLimit => { s with alm.errorBurstLimit := v }
  | .level c => setLevel c v s

/-- R175: SET-PARAMETER. -/
def reqSetParameter (args : List Byte) (s : State) : Reply × State :=
  match args with
  | [] => refuse .badFormat s
  | n :: value =>
    match paramOf n with
    | none => refuse .badRequest s
    | some p =>
      if value.length ≠ p.width then refuse .badFormat s
      else if !p.inRange (numOf value) then refuse .badValue s
      else
        let t := setParam p (numOf value) s
        done ([n] ++ p.encode (getParam p s) ++ p.encode (getParam p t)) t

/-- R176: GET-PARAMETER. -/
def reqGetParameter (args : List Byte) (s : State) : Reply × State :=
  match args with
  | [n] =>
    match paramOf n with
    | none => refuse .badRequest s
    | some p => done ([n] ++ p.encode (getParam p s)) s
  | _ => refuse .badFormat s

/-! ## Station requests (section 9.5) -/

/-- R2, R17: settings in range, the repeat window not less than the gather time. -/
def Settings.valid (e : Settings) : Bool :=
  decide (10 ≤ e.gatherMs ∧ e.gatherMs ≤ 2000) && decide (100 ≤ e.repeatMs ∧ e.repeatMs ≤ 60000) &&
    decide (e.gatherMs ≤ e.repeatMs) && decide (1 ≤ e.replyDelayMs ∧ e.replyDelayMs ≤ 250) &&
    decide (e.copySpacingMs ≤ 250) && decide (1 ≤ e.windowWidthMs ∧ e.windowWidthMs ≤ 100)

/-- R19: an entry replaced by PUT-STATION. -/
def Entry.replaced (e : Entry) (settings : Settings) : Entry :=
  { e with settings := settings, origin := .pinned }

/-- R17–R19: PUT-STATION with checked settings, at the table. -/
def putStation (id : StationId) (settings : Settings) (s : State) : Reply × State :=
  match lookup s.stab id with
  | some (i, e) => done [byteOf i.val, 0x00] (setPlace i (some (e.replaced settings)) s)
  | none =>
    match placeForNew s.now s.stab with
    | none => refuse .tableFull s
    | some i =>
      let evicted := s.stab.places[i].map Entry.station
      done ([byteOf i.val, byteOf (1 + flagBit evicted.isSome 2)] ++ optBytes be24 evicted)
        (setPlace i (some (newEntry id .pinned settings)) s)

/-- R17, R177: PUT-STATION. -/
def reqPutStation (args : List Byte) (s : State) : Reply × State :=
  match args with
  | [i1, i2, i3, m, g1, g2, w1, w2, re, rd, cs, ww] =>
    match modeOf m, boolOf re with
    | some mode, some reply =>
      let id := id24 i1 i2 i3
      let settings : Settings :=
        { mode := mode, gatherMs := num16 g1 g2, repeatMs := num16 w1 w2, replyEnabled := reply,
          replyDelayMs := rd.toNat, copySpacingMs := cs.toNat, windowWidthMs := ww.toNat }
      if !id.reserved && settings.valid then putStation id settings s else refuse .badValue s
    | none, _ => refuse .badValue s
    | some _, none => refuse .badValue s
  | _ => refuse .badFormat s

/-- A slot of the station is SENDING (R20). -/
def sendingFor (s : State) (id : StationId) : Bool :=
  (List.finRange 16).any (fun i => (slotState s i).isOf id && (slotState s i).isSending)

/-- R20: DROP-STATION of an entry, in its three steps. -/
def dropStation (i : Fin 64) (id : StationId) (s : State) : State :=
  discardClaim id (closureClaim id (setPlace i none s))

/-- R20, R178: DROP-STATION. -/
def reqDropStation (args : List Byte) (s : State) : Reply × State :=
  match args with
  | [i1, i2, i3] =>
    let id := id24 i1 i2 i3
    if id.reserved then refuse .badValue s
    else match lookup s.stab id with
      | none => refuse .notFound s
      | some (i, _) =>
        if sendingFor s id then refuse .inFlight s
        else done [byteOf (claimedRecords id s).length, byteOf (discardCount id s)] (dropStation i id s)
  | _ => refuse .badFormat s

/-- R179, R204: the results of GET-STATION. -/
def stationResults (i : Fin 64) (e : Entry) (slots : Nat) : List Byte :=
  [byteOf i.val, originCode (some e.origin), e.settings.mode.code] ++ be16 e.settings.gatherMs ++
    be16 e.settings.repeatMs ++
    [yesNo e.settings.replyEnabled, byteOf e.settings.replyDelayMs, byteOf e.settings.copySpacingMs,
      byteOf e.settings.windowWidthMs,
      byteOf (flagBit e.lastSequence.isSome 1 + flagBit e.lastHeard.isSome 2)] ++
    optBytes (fun b => [b]) e.lastSequence ++ optBytes be32 e.lastHeard ++ [e.nextDownlinkSeq] ++
    be16 e.accepted ++ be16 e.duplicates ++ be16 e.stale ++ [byteOf slots]

/-- R179: GET-STATION. -/
def reqGetStation (args : List Byte) (s : State) : Reply × State :=
  match args with
  | [i1, i2, i3] =>
    let id := id24 i1 i2 i3
    if id.reserved then refuse .badValue s
    else match lookup s.stab id with
      | none => refuse .notFound s
      | some (i, e) => done (stationResults i e (slotCount s id)) s
  | _ => refuse .badFormat s

/-- R180: the occupied entries from a start index on, in order of index. -/
def entriesFrom (t : StationTable) (start : Nat) : List (Fin 64 × Entry) :=
  (List.finRange 64).filterMap (fun i => if start ≤ i.val then t.places[i].map (fun e => (i, e)) else none)

/-- R180, R204: the results of LIST-STATIONS. -/
def listResults (found : List (Fin 64 × Entry)) : List Byte :=
  let k := found.take 8
  let next := if 8 < found.length then k.getLast?.map (fun p => p.1.val + 1) else none
  [byteOf k.length, byteOf (flagBit next.isSome 1)] ++ optBytes (fun n => [byteOf n]) next ++
    k.flatMap (fun p => [byteOf p.1.val] ++ be24 p.2.station ++ [originCode (some p.2.origin)])

/-- R180: LIST-STATIONS. -/
def reqListStations (args : List Byte) (s : State) : Reply × State :=
  match args with
  | [start] =>
    if 63 < start.toNat then refuse .badValue s else done (listResults (entriesFrom s.stab start.toNat)) s
  | _ => refuse .badFormat s

/-! ## Downlink requests (section 9.6) -/

/-- The place a QUEUE-DOWNLINK takes: the FREE place of lowest index (R73). -/
def freeSlotPlace (s : State) : Option (Fin 16) :=
  (List.finRange 16).find? (fun i => (slotState s i).downlink.isNone)

/-- R73: an accepted QUEUE-DOWNLINK fills a place; `j` and `e` are the station's entry. -/
def queueInto (i : Fin 16) (j : Fin 64) (e : Entry) (hostTag : Byte) (attempts lifetimeS : Nat)
    (payload : List Byte) (s : State) : State :=
  let d : Downlink :=
    { station := e.station, hostTag := hostTag, sequence := e.nextDownlinkSeq, payload := payload,
      attemptsLeft := attempts, transmissions := 0, lifetimeDeadline := after s.now (lifetimeS * 1000),
      order := nextOrder s }
  let t := setPlace j (some { e with nextDownlinkSeq := e.nextDownlinkSeq + 1 }) s
  { t with
    dls.places := s.dls.places.set i { generation := (s.dls.places[i]).generation + 1, state := .held d }
    dls.counters.queued := bump s.dls.counters.queued }

/-- R72, R73: QUEUE-DOWNLINK at the store, its arguments being in range. -/
def queueDownlink (id : StationId) (hostTag : Byte) (attempts lifetimeS : Nat) (payload : List Byte)
    (s : State) : Reply × State :=
  match lookup s.stab id with
  | none => refuse .notFound s
  | some (j, e) =>
    if !e.settings.replyEnabled then refuse .noReply s
    else if 4 ≤ slotCount s id then refuse .stationLimit s
    else match freeSlotPlace s with
      | none => refuse .poolFull s
      | some i =>
        done [byteOf i.val, (s.dls.places[i]).generation + 1, e.nextDownlinkSeq]
          (queueInto i j e hostTag attempts lifetimeS payload s)

/-- R72, condition 1: the arguments of QUEUE-DOWNLINK are in range. -/
def queueArgsValid (id : StationId) (hostTag attempts : Byte) (lifetimeS payloadLength : Nat) : Bool :=
  !id.reserved && decide (1 ≤ hostTag.toNat) && decide (1 ≤ attempts.toNat ∧ attempts.toNat ≤ 8) &&
    decide (1 ≤ lifetimeS ∧ lifetimeS ≤ 3600) && decide (payloadLength ≤ 24)

/-- R72, R181: QUEUE-DOWNLINK. -/
def reqQueueDownlink (args : List Byte) (s : State) : Reply × State :=
  match args with
  | i1 :: i2 :: i3 :: hostTag :: attempts :: l1 :: l2 :: n :: payload =>
    if payload.length ≠ n.toNat then refuse .badFormat s
    else
      let id := id24 i1 i2 i3
      if queueArgsValid id hostTag attempts (num16 l1 l2) payload.length then
        queueDownlink id hostTag attempts.toNat (num16 l1 l2) payload s
      else refuse .badValue s
  | _ => refuse .badFormat s

/-- R70: how a handle resolves. -/
inductive Handle where
  | outOfRange
  | notFound
  | found (i : Fin 16)
  deriving DecidableEq, Repr

/-- R70: a handle is resolved. -/
def resolve (s : State) (slot generation : Byte) : Handle :=
  if h : slot.toNat < 16 then
    let i : Fin 16 := ⟨slot.toNat, h⟩
    match slotState s i with
    | .free => .notFound
    | .held _ | .armed _ _ _ | .sending _ | .awaitConfirm _ | .reporting _ _ _ =>
      if (s.dls.places[i]).generation = generation then .found i else .notFound
  else .outOfRange

/-- R85: CANCEL-DOWNLINK of a slot. -/
def cancelSlot (i : Fin 16) (s : State) : Reply × State :=
  match slotState s i with
  | .free => refuse .notFound s
  | .held d | .armed d _ _ | .awaitConfirm d => done [] (reachResult i d .cancelled s)
  | .sending _ => refuse .inFlight s
  | .reporting _ r time => ({ status := .done, results := [r.code] ++ be32 time }, s)

/-- R85, R182: CANCEL-DOWNLINK. -/
def reqCancelDownlink (args : List Byte) (s : State) : Reply × State :=
  match args with
  | [slot, generation] =>
    match resolve s slot generation with
    | .outOfRange => refuse .badValue s
    | .notFound => refuse .notFound s
    | .found i => cancelSlot i s
  | _ => refuse .badFormat s

/-- R90, R204: the results of GET-DOWNLINK that every state has. -/
def downlinkCommon (st : SlotState) (d : Downlink) : List Byte :=
  [st.code] ++ be24 d.station ++ [d.hostTag, d.sequence, byteOf d.payload.length, byteOf d.attemptsLeft,
    byteOf d.transmissions] ++ be32 d.lifetimeDeadline

/-- R90, R204: the results of GET-DOWNLINK. -/
def downlinkResults (s : State) (i : Fin 16) : List Byte :=
  match slotState s i with
  | .free => []
  | .held d => downlinkCommon (.held d) d ++ [byteOf (queuePosition s i d.station)]
  | .armed d o c => downlinkCommon (.armed d o c) d ++ be32 o ++ be32 c
  | .sending d => downlinkCommon (.sending d) d
  | .awaitConfirm d => downlinkCommon (.awaitConfirm d) d
  | .reporting d r t => downlinkCommon (.reporting d r t) d ++ [r.code] ++ be32 t

/-- R90, R183: GET-DOWNLINK. -/
def reqGetDownlink (args : List Byte) (s : State) : Reply × State :=
  match args with
  | [slot, generation] =>
    match resolve s slot generation with
    | .outOfRange => refuse .badValue s
    | .notFound => refuse .notFound s
    | .found i => done (downlinkResults s i) s
  | _ => refuse .badFormat s

/-! ## Cause and counter requests (section 9.7) -/

/-- R140, R204: the record of one cause in GET-CAUSES. -/
def causeResults (k : CauseState) : List Byte :=
  match k.occurrence with
  | none => [0x00, 0x00, byteOf k.level]
  | some o => [0x01, byteOf o.count, byteOf k.level] ++ be32 o.first

/-- R140, R184: GET-CAUSES. -/
def reqGetCauses (args : List Byte) (s : State) : Reply × State :=
  match args with
  | [] => done (allCauses.flatMap (fun c => causeResults (causeState s c))) s
  | _ => refuse .badFormat s

/-- R140: a cause is cleared. -/
def clearCause (c : Cause) (s : State) : State :=
  decideAttn (setNotice c false (setCause c { causeState s c with occurrence := none } s))

/-- R140, R204: the results of CLEAR-CAUSE. -/
def clearResults (k : CauseState) : List Byte :=
  match k.occurrence with
  | none => [0x00, 0x00]
  | some o => [0x01, byteOf o.count] ++ be32 o.first

/-- R140, R184: CLEAR-CAUSE. -/
def reqClearCause (args : List Byte) (s : State) : Reply × State :=
  match args with
  | [n] =>
    match causeOf n with
    | none => refuse .badValue s
    | some c => done (clearResults (causeState s c)) (clearCause c s)
  | _ => refuse .badFormat s

/-- R185: the counters of a group. -/
def groupCounters (g : CounterGroup) (s : State) : List Nat :=
  match g with
  | .rxA => s.fra.counters.toList
  | .rxB => s.frb.counters.toList
  | .filter => s.rpf.counters.toList
  | .downlink => s.dls.counters.toList
  | .transmit => s.ftx.counters.toList
  | .stream => s.dst.counters.toList
  | .trunk => s.trk.counters.toList

/-- R186: the counters of a group are set to 0. -/
def clearGroup (g : CounterGroup) (s : State) : State :=
  match g with
  | .rxA => { s with fra.counters := zeroRxCounters }
  | .rxB => { s with frb.counters := zeroRxCounters }
  | .filter => { s with rpf.counters := zeroFilterCounters }
  | .downlink => { s with dls.counters := zeroDownlinkCounters }
  | .transmit => { s with ftx.counters := zeroTransmitCounters }
  | .stream => { s with dst.counters := zeroStreamCounters }
  | .trunk => { s with trk.counters := zeroTrunkCounters }

/-- R185, R204: the results of GET-COUNTERS and CLEAR-COUNTERS. -/
def counterResults (code : Byte) (g : CounterGroup) (s : State) : List Byte :=
  [code] ++ (groupCounters g s).flatMap be16

/-- R185: GET-COUNTERS. -/
def reqGetCounters (args : List Byte) (s : State) : Reply × State :=
  match args with
  | [n] =>
    match groupOf n with
    | none => refuse .badValue s
    | some g => done (counterResults n g s) s
  | _ => refuse .badFormat s

/-- R186: CLEAR-COUNTERS. -/
def reqClearCounters (args : List Byte) (s : State) : Reply × State :=
  match args with
  | [n] =>
    match groupOf n with
    | none => refuse .badValue s
    | some g => done (counterResults n g s) (clearGroup g s)
  | _ => refuse .badFormat s

/-! ## Carrier requests (section 9.8) -/

/-- R106: the transmitter holds both lines asserted in TESTING until the test end. -/
def startTest (testEnd : PartTime) (s : State) : State :=
  { s with ftx.state := .testing testEnd, ftx.keyLine := true, ftx.enLine := true }

/-- R106: CARRIER-TEST at the transmitter, its duration being in range. -/
def carrierTest (ms : Nat) (s : State) : Reply × State :=
  let testEnd := after s.now ms
  match s.ftx.state with
  | .idle => done (be32 testEnd) (startTest testEnd { s with ftx.counters.tests := bump s.ftx.counters.tests })
  | .testing _ => done (be32 testEnd) (startTest testEnd s)
  | .sending _ _ _ => refuse .busy s
  | .stopping _ => refuse .busy s

/-- R106, R187: CARRIER-TEST. -/
def reqCarrierTest (args : List Byte) (s : State) : Reply × State :=
  match args with
  | [d1, d2] =>
    if 1 ≤ num16 d1 d2 ∧ num16 d1 d2 ≤ 5000 then carrierTest (num16 d1 d2) s else refuse .badValue s
  | _ => refuse .badFormat s

/-- R107: a carrier test ends: lines deasserted, IDLE, and the arbiter decides in the same event. -/
def endTest (s : State) : State := arbiter (goIdle s)

/-- R107, R188: CARRIER-STOP. -/
def reqCarrierStop (args : List Byte) (s : State) : Reply × State :=
  match args with
  | [] =>
    match s.ftx.state with
    | .testing _ => done [yesNo true] (endTest s)
    | .idle | .sending _ _ _ | .stopping _ => done [yesNo false] s
  | _ => refuse .badFormat s

/-! ## Carrying out a request -/

/-- R167: the request engine carries out the request with this code, one that the part defines. -/
def carryOut (code : Byte) (args : List Byte) (s : State) : Reply × State :=
  if code = 0x10 then reqOpenSession args s
  else if code = 0x11 then reqCloseSession args s
  else if code = 0x12 then reqGetStatus args s
  else if code = 0x13 then reqWarmRestart args s
  else if code = 0x20 then reqSetParameter args s
  else if code = 0x21 then reqGetParameter args s
  else if code = 0x30 then reqPutStation args s
  else if code = 0x31 then reqDropStation args s
  else if code = 0x32 then reqGetStation args s
  else if code = 0x33 then reqListStations args s
  else if code = 0x40 then reqQueueDownlink args s
  else if code = 0x41 then reqCancelDownlink args s
  else if code = 0x42 then reqGetDownlink args s
  else if code = 0x50 then reqGetCauses args s
  else if code = 0x51 then reqClearCause args s
  else if code = 0x52 then reqGetCounters args s
  else if code = 0x53 then reqClearCounters args s
  else if code = 0x60 then reqCarrierTest args s
  else reqCarrierStop args s

/-- R151: the three checks at intake, then the request engine. -/
def judgeRequest (code : Byte) (args : List Byte) (s : State) : Reply × State :=
  if !definedCodes.contains code then refuse .badRequest s
  else if !s.trk.session.isOpen && code != 0x10 && code != 0x12 then refuse .notOpen s
  else carryOut code args s

end Sys2Proof.Machine
end

