-- ==== Sys2Proof/Machine/Trunk.lean ====
section
/-!
DEFINITION. The trunk link: intake and the duplicate-request cache (section 8.3), the sender (section 8.6),
frame reception (section 8.2), and the closing of every event.
-/

namespace Sys2Proof.Machine

/-! ## Responses and the cache -/

/-- R151, R154: a response joins the tail of the response queue. -/
def pushResponse (r : Response) (concludes : Bool) (s : State) : State :=
  { s with trk.responses := s.trk.responses ++ [{ response := r, concludes := concludes }] }

/-- R152: the cache record that answers a request. -/
def findCached (cache : List CacheRecord) (tag code : Byte) : Option CacheRecord :=
  cache.find? (fun k => k.tag == tag && k.code == code)

/-- R153: a response is recorded: an older record of the tag goes, then the oldest of four, and the new one
joins at the newest end. -/
def recordIn (cache : List CacheRecord) (r : Response) : List CacheRecord :=
  let others := cache.filter (fun k => k.tag != r.tag)
  (if 4 ≤ others.length then others.drop 1 else others) ++ [{ tag := r.tag, code := r.code, response := r }]

/-- R153: a response to a request with a nonzero tag is recorded. -/
def recordResponse (r : Response) (s : State) : State :=
  if r.tag = 0 then s else { s with trk.cache := recordIn s.trk.cache r }

/-- R158, R166: a carried-out CLOSE-SESSION or WARM-RESTART, whose response the engine waits for. -/
def concludesSession (code : Byte) (st : Status) : Bool :=
  (code == 0x11 || code == 0x13) && st == .ok

/-! ## Intake -/

/-- R151, R167: a request that the cache does not answer: it is judged, its response is recorded and joins
the response queue. -/
def answerAfresh (tag code : Byte) (args : List Byte) (s : State) : State :=
  let (reply, t) := judgeRequest code args s
  let r : Response := { tag := tag, code := code, status := reply.status.code, results := reply.results }
  pushResponse r (concludesSession code reply.status) (recordResponse r t)

/-- R152: a duplicate: the record's response joins the queue and the duplicates counter advances. -/
def answerDuplicate (k : CacheRecord) (s : State) : State :=
  pushResponse k.response false { s with trk.counters.duplicates := bump s.trk.counters.duplicates }

/-- R151, R204: a body that holds no request code is answered BAD_FORMAT with code 0x00. -/
def answerEmpty (tag : Byte) (s : State) : State :=
  pushResponse { tag := tag, code := 0x00, status := Status.badFormat.code, results := [] } false s

/-- R151, R152: the intake of one request. -/
def takeIn (q : HeldRequest) (s : State) : State :=
  match q.body with
  | [] => answerEmpty q.tag s
  | code :: args =>
    match (if q.tag = 0 then none else findCached s.trk.cache q.tag code) with
    | some k => answerDuplicate k s
    | none => answerAfresh q.tag code args s

/-- R151: the request engine is READY and the response queue has a free place. -/
def intakeOpen (s : State) : Bool := (s.mre == .ready) && decide (s.trk.responses.length < 4)

/-- R151: intakes take place for as long as the three conditions hold; `n` bounds their number. -/
def intakes : Nat → State → State
  | 0, s => s
  | n + 1, s =>
    match s.trk.held with
    | [] => s
    | q :: rest => if intakeOpen s then intakes n (takeIn q { s with trk.held := rest }) else s

/-- R151: every intake that the conditions allow. -/
def intakeAll (s : State) : State := intakes s.trk.held.length s

/-! ## The sender (R162) -/

/-- R136, R137: the member of the notice set with the lowest cause number. -/
def lowestNotice (s : State) : Option Cause := allCauses.find? (inNotices s)

/-- A frame is taken and its sending begins. -/
def putOnLine (f : FrameContent) (s : State) : State :=
  { s with trk.line := some { content := f, aborted := false } }

/-- R162: the stream wait count after a response or a notice. -/
def waitAfter (eligibleNow : Bool) (count : Nat) : Nat := if eligibleNow then count + 1 else 0

/-- R162: the sender takes a response. -/
def sendResponse (q : QueuedResponse) (rest : List QueuedResponse) (s : State) : State :=
  putOnLine (.response q)
    { s with
      trk.responses := rest
      trk.streamWait := waitAfter (streamEligible s) s.trk.streamWait
      trk.counters.responsesSent := bump s.trk.counters.responsesSent }

/-- R137, R162: the sender takes a notice. -/
def sendNotice (c : Cause) (s : State) : State :=
  let k := causeState s c
  let o := k.occurrence.getD { count := 0, first := 0 }
  putOnLine (.notice c o.count k.level o.first)
    { setNotice c false s with
      trk.streamWait := waitAfter (streamEligible s) s.trk.streamWait
      trk.counters.noticesSent := bump s.trk.counters.noticesSent }

/-- R120, R162: the sender takes a stream frame. -/
def sendStream (s : State) : State :=
  match streamSend s with
  | none => s
  | some ((q, it), t) =>
    putOnLine (.delivery q it)
      { t with
        trk.streamWait := 0
        trk.counters.streamFramesSent := bump t.trk.counters.streamFramesSent }

/-- R162: the sender's decision at a frame boundary. -/
def takeFrame (s : State) : State :=
  if streamEligible s && decide (3 ≤ s.trk.streamWait) then sendStream s
  else match s.trk.responses with
    | q :: rest => sendResponse q rest s
    | [] =>
      match lowestNotice s with
      | some c => sendNotice c s
      | none => if streamEligible s then sendStream s else s

/-- R161: while TTXD carries no frame, the sender decides in the event that gives a source something to
send. -/
def senderDecides (s : State) : State :=
  match s.trk.line with
  | some _ => s
  | none => takeFrame s

/-! ## Events -/

/-- What closes every event: the intakes whose conditions the event made true (R151), the sender's decision
if the line is idle (R161), and the intakes that a response taken from the queue makes possible. -/
def settle (s : State) : State := intakeAll (senderDecides (intakeAll s))

/-- An event of the part. While the part is held in full reset (R196), and while REFCLK is stopped (R190), it takes
no event. -/
def event (f : State → State) (s : State) : Host.Outcome State Fault Refusal :=
  .next (if s.takesEvents then settle (f s) else s)

/-! ## Frame reception (section 8.2) -/

/-- R149: a frame or content has ended at a delimiter, which begins a new, empty content. -/
def newContent (s : State) : State := { s with trk.assembler := .collecting [] false }

/-- R148: the counter of a fault. -/
def countFault (f : ContentFault) (c : TrunkCounters) : TrunkCounters :=
  match f with
  | .badEscape => { c with badEscapes := bump c.badEscapes }
  | .badEscapeDelimiter => { c with badEscapes := bump c.badEscapes }
  | .oversize => { c with oversize := bump c.oversize }
  | .runt => { c with runts := bump c.runts }
  | .badCheck => { c with badChecks := bump c.badChecks }

/-- R148: where a fault leaves the assembler. -/
def assemblerAfter (f : ContentFault) : Assembler :=
  match f with
  | .badEscape => .hunt
  | .oversize => .hunt
  | .badEscapeDelimiter => .collecting [] false
  | .runt => .collecting [] false
  | .badCheck => .collecting [] false

/-- R148: a content is discarded for a fault. -/
def discardContent (f : ContentFault) (s : State) : State :=
  raise .trunkRxError
    { s with trk.assembler := assemblerAfter f, trk.counters := countFault f s.trk.counters }

/-- R146, R148: a line error. -/
def takeLineError (s : State) : State :=
  raise .trunkRxError
    { s with trk.assembler := .hunt, trk.counters.lineErrors := bump s.trk.counters.lineErrors }

/-- R149, R159: a valid frame is counted and restarts the idle measurement. -/
def countValid (s : State) : State :=
  restartIdle { s with trk.counters.validFrames := bump s.trk.counters.validFrames }

/-- R150: a request joins the held-request buffer, or is discarded by overrun. -/
def holdRequest (tag : Byte) (body : List Byte) (s : State) : State :=
  if s.trk.held.length < 2 then { s with trk.held := s.trk.held ++ [{ tag := tag, body := body }] }
  else raise .trunkRxError { s with trk.counters.overruns := bump s.trk.counters.overruns }

/-- R149: a frame is discarded for its kind. -/
def discardKind (s : State) : State := { s with trk.counters.badKinds := bump s.trk.counters.badKinds }

/-- R149: a received frame is judged by its kind. A content longer than 84 bytes is no frame but is
discarded as oversize at its 85th byte; its closing delimiter, which comes later, begins a new content
(R148). -/
def receiveFrame (kind tag : Byte) (body : List Byte) (s : State) : State :=
  if 80 < body.length then newContent (discardContent .oversize s)
  else if kind = 0x02 then
    if body.isEmpty then takeAck tag (countValid (newContent s)) else discardKind (newContent s)
  else if kind = 0x01 then holdRequest tag body (countValid (newContent s))
  else discardKind (newContent s)

/-- R148: a closing delimiter ends this content; a content of no bytes is not a frame and is not counted. -/
def endContent (content : List Byte) (s : State) : State :=
  match content with
  | [] => newContent s
  | kind :: tag :: rest =>
    if content.length < 4 then discardContent .runt s
    else
      let body := rest.take (rest.length - 2)
      if be16 (frameCheck (kind :: tag :: body)).toNat = rest.drop (rest.length - 2) then
        receiveFrame kind tag body s
      else discardContent .badCheck s
  | [_] => discardContent .runt s

/-- R148: a byte joins the content; the 85th is one too many. -/
def addContent (content : List Byte) (b : Byte) (s : State) : State :=
  if 84 ≤ content.length then discardContent .oversize s
  else { s with trk.assembler := .collecting (content ++ [b]) false }

/-- R148: the effect of one byte received on TRXD. -/
def byteEffect (b : Byte) (s : State) : State :=
  match s.trk.assembler with
  | .hunt => if b = 0xA5 then newContent s else s
  | .collecting content false =>
    if b = 0xA5 then endContent content s
    else if b = 0xA6 then { s with trk.assembler := .collecting content true }
    else addContent content b s
  | .collecting content true =>
    if b = 0x85 then addContent content 0xA5 s
    else if b = 0x86 then addContent content 0xA6 s
    else if b = 0xA5 then discardContent .badEscapeDelimiter s
    else discardContent .badEscape s

/-- R148: one byte received on TRXD; what it completes takes effect at once (R149, R151, R161). -/
def receiveByte (s : State) (b : Byte) : State := settle (byteEffect b s)

/-! ## Sampling of TRXD (R146, R195) -/

/-- The trunk receiver changes state. -/
def setSampler (x : TrunkSampler) (s : State) : State := { s with trk.sampler := x }

/-- R146, R195: one sample of the byte in progress. The first eight samples are its data bits; the ninth is its
stop bit: at mark the byte has been received, at space it is a line error, and the receiver waits for mark. -/
def takeSample (start : Nat) (level : Bool) (bits : List Bool) (s : State) : State :=
  if bits.length < 8 then setSampler (.receiving start level (bits ++ [level])) s
  else if level then byteEffect (serialByte bits) (setSampler .idle s)
  else takeLineError (setSampler .broken s)

/-- R195: the samples of the byte in progress that are `due`, at most `n` of them. -/
def takeSamples (due : Nat → Bool) : Nat → State → State
  | 0, s => s
  | n + 1, s =>
    match s.trk.sampler with
    | .receiving start level bits =>
      if due (s.tbs.trunkSample start (bits.length + 1)) then takeSamples due n (takeSample start level bits s)
      else s
    | .idle => s
    | .broken => s

/-- R195: the samples that come before an edge of TRXD at `time`. Whether a sample in the period of the edge is
one of them is free (log entry 22). -/
def beforeEdge (time at' : Nat) : Bool :=
  decide (at' < time) || (at' == time && !Config.sampleSeesEdge time)

/-- R146, R195: one edge of TRXD: a falling edge begins a start bit, an edge within a byte changes the level that
its later samples see, and a rising edge ends the wait for mark. -/
def trunkEdge (rising : Bool) (time : Nat) (s : State) : State :=
  let t := takeSamples (beforeEdge time) 9 s
  match t.trk.sampler with
  | .idle => if rising then t else setSampler (.receiving time false []) t
  | .receiving start _ bits => setSampler (.receiving start rising bits) t
  | .broken => if rising then setSampler .idle t else t

/-! ## Whole contents and frames -/

/-- R146, R148, R195: what a DISCARDED_CONTENT command brings. -/
def takeContent (c : TrunkContent) (s : State) : State :=
  match c with
  | .fault f => discardContent f s
  | .bytes bs => bs.foldl receiveByte s
  | .edge rising time => trunkEdge rising time s
  | .quiet time => takeSamples (fun at' => decide (at' ≤ time)) 9 s

/-- R148: the opening delimiter of a frame, which ends whatever content the assembler was collecting. -/
def openingDelimiter (s : State) : State :=
  match s.trk.assembler with
  | .hunt => newContent s
  | .collecting [] false => newContent s
  | .collecting [] true => receiveByte s 0xA5
  | .collecting (_ :: _) _ => receiveByte s 0xA5

/-- R149: a whole frame arrives on TRXD. -/
def frameArrives (kind tag : Byte) (body : List Byte) (s : State) : State :=
  receiveFrame kind tag body (openingDelimiter s)

/-- R150: the REQUEST frame of a request arrives: its code and the bytes after it. -/
def requestArrives (tag code : Byte) (args : List Byte) (s : State) : State :=
  frameArrives 0x01 tag (code :: args) s

end Sys2Proof.Machine
end

