-- ==== Sys2Proof/Machine/FieldCommands.lean ====
section
/-!
DEFINITION. The commands of the field receivers and the repeat filter.
-/

namespace Sys2Proof.Machine

/-- PREAMBLE_LOST (R30, R31, R32): a receiver in HUNT, PREAMBLE or SYNC loses what it has and advances
preamble lost. In BODY and DISABLED there is no preamble to lose and nothing changes (log entry 5). -/
def execPreambleLost (ch : Channel) (s : State) : Host.Outcome State Fault Refusal :=
  event (fun s => match rxState s ch with
    | .hunt _ | .preamble _ _ | .sync _ _ _ _ => losePreamble ch s
    | .disabled | .body _ _ _ _ _ => s) s

/-- SYNC_MISSING (R32): the sync count reaches 32 without a match. In BODY and DISABLED there is no sync
word to miss and nothing changes (log entry 5). -/
def execSyncMissing (ch : Channel) (s : State) : Host.Outcome State Fault Refusal :=
  event (fun s => match rxState s ch with
    | .hunt _ | .preamble _ _ | .sync _ _ _ _ => missSync ch s
    | .disabled | .body _ _ _ _ _ => s) s

/-- RECEIVER_ERROR (R33–R35, R41, R142). A DISABLED receiver declares no error (R38, log entry 5). -/
def execReceiverError (ch : Channel) (e : BodyError) (s : State) : Host.Outcome State Fault Refusal :=
  event (fun s => if (rxState s ch).isEnabled then bodyError ch e s else s) s

/-- COPY (R36, R47): the copy is handed over and handled whole. A DISABLED receiver hands over nothing
(R38). What breaks the format of R199 is a format error, not a copy (R35, log entry 5). -/
def execCopy (c : Copy) (s : State) : Host.Outcome State Fault Refusal :=
  event (fun s =>
    if !(rxState s c.channel).isEnabled then s
    else if c.wf then handOver c s
    else bodyError c.channel .format s) s

/-- R190: REFCLK stops. The part stands where it is, and its output lines hold their levels. -/
def stopRefclk (s : State) : State := { s with tbs.refclkRunning := false }

/-- R190, R197: REFCLK runs. Each block goes on from where it stood; a full reset that has been released and only
waited for REFCLK ends. -/
def startRefclk (s : State) : State :=
  let t := { s with tbs.refclkRunning := true }
  if s.inReset then
    match s.tbs.release with
    | some (rsel1, rsel0) => State.afterReset rsel1 rsel0 s.pending
    | none => t
  else settle t

/-- CELL_DECODED (R26–R37, R190): a decoded cell, an edge, or the end of windows, at a receiver; or REFCLK stops or
runs again. -/
def execCellDecoded (ch : Channel) (input : CellInput) (s : State) : Host.Outcome State Fault Refusal :=
  match input with
  | .decided bit soft time => event (decodedCell ch bit soft time) s
  | .edge rising time => event (lineEdge ch rising time) s
  | .quiet time => event (lineQuiet ch time) s
  | .refclk running => .next (if running then startRefclk s else stopRefclk s)

end Sys2Proof.Machine
end

