-- ==== Sys2Proof/Machine/RequestCommands.lean ====
section
/-!
DEFINITION. The nineteen requests as commands: each is the arrival of the REQUEST frame that R203 lays out
(log entry 3). Its intake follows in the same event when the request engine is READY and the response queue
has a free place (R151); the request is then answered from the cache (R152) or judged and carried out
(R151, R167) as its function in Machine/Requests.lean says.
-/

namespace Sys2Proof.Machine

/-- OPEN-SESSION (R156, R169). -/
def execOpenSession (tag mode : Byte) (s : State) : Host.Outcome State Fault Refusal :=
  event (requestArrives tag 0x10 [mode]) s

/-- CLOSE-SESSION (R170). -/
def execCloseSession (tag : Byte) (s : State) : Host.Outcome State Fault Refusal :=
  event (requestArrives tag 0x11 []) s

/-- GET-STATUS (R171). -/
def execGetStatus (tag : Byte) (s : State) : Host.Outcome State Fault Refusal :=
  event (requestArrives tag 0x12 []) s

/-- WARM-RESTART (R172). -/
def execWarmRestart (tag : Byte) (s : State) : Host.Outcome State Fault Refusal :=
  event (requestArrives tag 0x13 []) s

/-- SET-PARAMETER (R175). -/
def execSetParameter (tag number : Byte) (value : List Byte) (s : State) : Host.Outcome State Fault Refusal :=
  event (requestArrives tag 0x20 (number :: value)) s

/-- GET-PARAMETER (R176). -/
def execGetParameter (tag number : Byte) (s : State) : Host.Outcome State Fault Refusal :=
  event (requestArrives tag 0x21 [number]) s

/-- PUT-STATION (R17–R19, R177). -/
def execPutStation (tag : Byte) (station : StationId) (mode : Byte) (gatherTime repeatWindow : Word16)
    (replyEnabled replyDelay copySpacing windowWidth : Byte) (s : State) :
    Host.Outcome State Fault Refusal :=
  event (requestArrives tag 0x30
    (putStationArgs station mode gatherTime repeatWindow replyEnabled replyDelay copySpacing windowWidth)) s

/-- DROP-STATION (R20, R178). -/
def execDropStation (tag : Byte) (station : StationId) (s : State) : Host.Outcome State Fault Refusal :=
  event (requestArrives tag 0x31 (be24 station)) s

/-- GET-STATION (R179). -/
def execGetStation (tag : Byte) (station : StationId) (s : State) : Host.Outcome State Fault Refusal :=
  event (requestArrives tag 0x32 (be24 station)) s

/-- LIST-STATIONS (R180). -/
def execListStations (tag start : Byte) (s : State) : Host.Outcome State Fault Refusal :=
  event (requestArrives tag 0x33 [start]) s

/-- QUEUE-DOWNLINK (R72, R73, R181). -/
def execQueueDownlink (tag : Byte) (station : StationId) (hostTag attempts : Byte) (lifetime : Word16)
    (payload : List Byte) (s : State) : Host.Outcome State Fault Refusal :=
  event (requestArrives tag 0x40 (queueDownlinkArgs station hostTag attempts lifetime payload)) s

/-- CANCEL-DOWNLINK (R85, R182). -/
def execCancelDownlink (tag slot generation : Byte) (s : State) : Host.Outcome State Fault Refusal :=
  event (requestArrives tag 0x41 [slot, generation]) s

/-- GET-DOWNLINK (R90, R183). -/
def execGetDownlink (tag slot generation : Byte) (s : State) : Host.Outcome State Fault Refusal :=
  event (requestArrives tag 0x42 [slot, generation]) s

/-- GET-CAUSES (R140, R184). -/
def execGetCauses (tag : Byte) (s : State) : Host.Outcome State Fault Refusal :=
  event (requestArrives tag 0x50 []) s

/-- CLEAR-CAUSE (R140, R184). -/
def execClearCause (tag number : Byte) (s : State) : Host.Outcome State Fault Refusal :=
  event (requestArrives tag 0x51 [number]) s

/-- GET-COUNTERS (R185). -/
def execGetCounters (tag group : Byte) (s : State) : Host.Outcome State Fault Refusal :=
  event (requestArrives tag 0x52 [group]) s

/-- CLEAR-COUNTERS (R186). -/
def execClearCounters (tag group : Byte) (s : State) : Host.Outcome State Fault Refusal :=
  event (requestArrives tag 0x53 [group]) s

/-- CARRIER-TEST (R106, R187). -/
def execCarrierTest (tag : Byte) (duration : Word16) (s : State) : Host.Outcome State Fault Refusal :=
  event (requestArrives tag 0x60 (be16 duration.toNat)) s

/-- CARRIER-STOP (R107, R188). -/
def execCarrierStop (tag : Byte) (s : State) : Host.Outcome State Fault Refusal :=
  event (requestArrives tag 0x61 []) s

end Sys2Proof.Machine
end

