-- ==== Sys2Proof/Machine/ResetCommands.lean ====
section
/-!
DEFINITION. The beginning and the end of a full reset (section 10.6).
-/

namespace Sys2Proof.Machine

/-- R196: the part begins to be held in full reset: TTXD at mark, FTX_KEY, FTX_EN and ATTN deasserted, the
operation in progress cut off, part time at 0. -/
def holdInReset (s : State) : State :=
  { s with
    inReset := true
    tbs.partTime := 0
    tbs.release := none
    fra.state := .hunt none
    frb.state := .hunt none
    ftx.state := .idle
    ftx.candidates := []
    ftx.keyLine := false
    ftx.enLine := false
    trk.sampler := .idle
    trk.assembler := .hunt
    trk.line := none
    alm.attn := false }

/-- FULL_RESET (R112, R164, R196). It needs no REFCLK (R197). -/
def execFullReset (s : State) : Host.Outcome State Fault Refusal := .next (holdInReset s)

/-- FULL_RESET_END (R190, R197): the part reads RSEL1 and RSEL0 and every block is in its full-reset state. While
REFCLK is stopped, the reset of a part that is held has been released and ends when REFCLK starts. -/
def execFullResetEnd (rsel1 rsel0 : Bool) (s : State) : Host.Outcome State Fault Refusal :=
  .next
    (if s.tbs.refclkRunning then State.afterReset rsel1 rsel0 s.pending
     else if s.inReset then { s with tbs.release := some (rsel1, rsel0) }
     else s)

end Sys2Proof.Machine
end

