-- ==== Sys2Proof/Machine/TimeCommands.lean ====
section
/-!
DEFINITION. The advance of part time, the deadlines and the ends of what the transmitter does. A deadline
command is its expiry: before the deadline is reached, or when its owner no longer holds it, nothing
changes (R192, log entry 6).
-/

namespace Sys2Proof.Machine

/-- PART_TIME_ADVANCE (R191): part time advances by one and wraps. -/
def execPartTimeAdvance (s : State) : Host.Outcome State Fault Refusal :=
  event (fun s => { s with tbs.partTime := s.tbs.partTime + 1 }) s

/-- GATHER_DEADLINE (R56). -/
def execGatherDeadline (id : StationId) (q : Byte) (s : State) : Host.Outcome State Fault Refusal :=
  event (fun s => match findRecord s.rpf.records id q with
    | none => s
    | some r =>
      match r.state with
      | .settled => s
      | .gathering d => if reached s.now d then closeRecord r false s else s) s

/-- SETTLE_DEADLINE (R57): the record is closed if it is still GATHERING, and removed. -/
def execSettleDeadline (id : StationId) (q : Byte) (s : State) : Host.Outcome State Fault Refusal :=
  event (fun s => match findRecord s.rpf.records id q with
    | none => s
    | some r =>
      if reached s.now r.settleDeadline then
        dropRecord id q (if r.isGathering then closeRecord r false s else s)
      else s) s

/-- WINDOW_OPEN (R78): the slot joins the candidate set, and the arbiter decides if the transmitter is
IDLE. -/
def execWindowOpen (i : Fin 16) (s : State) : Host.Outcome State Fault Refusal :=
  event (fun s => match slotState s i with
    | .armed _ o _ => if reached s.now o then offerSlot i s else s
    | .free | .held _ | .sending _ | .awaitConfirm _ | .reporting _ _ _ => s) s

/-- WINDOW_CLOSE (R79): the window is missed. -/
def execWindowClose (i : Fin 16) (s : State) : Host.Outcome State Fault Refusal :=
  event (fun s => match slotState s i with
    | .armed d _ c => if reached s.now c then missWindow i d s else s
    | .free | .held _ | .sending _ | .awaitConfirm _ | .reporting _ _ _ => s) s

/-- LIFETIME_DEADLINE (R83). -/
def execLifetimeDeadline (i : Fin 16) (s : State) : Host.Outcome State Fault Refusal :=
  event (fun s => match slotState s i with
    | .held d | .armed d _ _ =>
      if reached s.now d.lifetimeDeadline then reachResult i d (expiryResult d) s else s
    | .awaitConfirm d => if reached s.now d.lifetimeDeadline then reachResult i d .expiredSent s else s
    | .free | .sending _ | .reporting _ _ _ => s) s

/-- R81: the store takes the report of a transmission end. -/
def takeTransmissionEnd (i : Fin 16) (s : State) : State :=
  match slotState s i with
  | .sending d =>
    if reached s.now d.lifetimeDeadline then reachResult i d .expiredSent s else setSlot i (.awaitConfirm d) s
  | .free | .held _ | .armed _ _ _ | .awaitConfirm _ | .reporting _ _ _ => s

/-- TRANSMISSION_END (R81, R104, R105): the last check cell has been sent, the lines fall, the store takes the
report, and the arbiter decides. Before the last tick has passed, the transmission goes on as it is (R104). -/
def execTransmissionEnd (s : State) : Host.Outcome State Fault Refusal :=
  event (fun s => match s.ftx.state with
    | .sending snap i n =>
      if n < snap.levels.length then s
      else
        arbiter (takeTransmissionEnd i
          { goIdle s with ftx.counters.completed := bump s.ftx.counters.completed })
    | .idle | .testing _ | .stopping _ => s) s

/-- TEST_END (R107). -/
def execTestEnd (s : State) : Host.Outcome State Fault Refusal :=
  event (fun s => match s.ftx.state with
    | .testing d => if reached s.now d then endTest s else s
    | .idle | .sending _ _ _ | .stopping _ => s) s

/-- STOPPING_END (R110): the cell in progress has ended. Before its last tick has passed, it goes on. -/
def execStoppingEnd (s : State) : Host.Outcome State Fault Refusal :=
  event (fun s => match s.ftx.state with
    | .stopping [] => arbiter (goIdle s)
    | .stopping (_ :: _) => s
    | .idle | .sending _ _ _ | .testing _ => s) s

/-- RETRANSMIT_TIMER_EXPIRY (R127). -/
def execRetransmitTimerExpiry (s : State) : Host.Outcome State Fault Refusal :=
  event (fun s => match s.dst.timer with
    | some d => if reached s.now d then timerExpires s else s
    | none => s) s

/-- R160: the idle timeout: the session closes, the response queue is emptied, and a response of CLOSE-SESSION
or WARM-RESTART that it held is reported finished. -/
def idleTimeout (s : State) : State :=
  let finished := s.trk.responses.any QueuedResponse.concludes
  let t := closeSession s
  let u := { t with
    trk.responses := []
    trk.counters.idleCloses := bump t.trk.counters.idleCloses }
  if finished then engineReleased u else u

/-- IDLE_DEADLINE (R160). -/
def execIdleDeadline (s : State) : Host.Outcome State Fault Refusal :=
  event (fun s => match s.trk.session with
    | .opened (some d) => if reached s.now d then idleTimeout s else s
    | .opened none => s
    | .closed => s) s

/-- RENOTIFY_DEADLINE (R138): the causes that qualify join the notice set if the session is OPEN, and the
next deadline is set from the one just reached. -/
def execRenotifyDeadline (s : State) : Host.Outcome State Fault Refusal :=
  event (fun s =>
    if reached s.now s.alm.renotifyDeadline then
      { joinAllNotices s with alm.renotifyDeadline := after s.alm.renotifyDeadline (s.alm.renotifyS * 1000) }
    else s) s

/-- PER_SECOND_BOUNDARY (R142, R194): part time is a multiple of 1000 and the burst count becomes 0. -/
def execPerSecondBoundary (s : State) : Host.Outcome State Fault Refusal :=
  event (fun s => if s.now.toNat % 1000 = 0 then { s with alm.burstCount := 0 } else s) s

end Sys2Proof.Machine
end

