-- ==== Sys2Proof/Machine/TrunkCommands.lean ====
section
/-!
DEFINITION. The commands of the trunk line: frames received, faults, and the frame boundary.
-/

namespace Sys2Proof.Machine

/-- ACK (R123–R126, R149, R159): an ACK frame arrives. -/
def execAck (n : Byte) (s : State) : Host.Outcome State Fault Refusal :=
  event (frameArrives 0x02 n []) s

/-- R158: the frame on the line has been sent; the end of a CLOSE-SESSION or WARM-RESTART response closes
the session and releases the request engine before the sender chooses again. -/
def frameEnds (s : State) : State :=
  match s.trk.line with
  | none => s
  | some f =>
    let t := { s with trk.line := none }
    match f.content with
    | .response q => if q.concludes then engineReleased (closeSession t) else t
    | .notice _ _ _ _ => t
    | .delivery _ _ => t

/-- FRAME_BOUNDARY (R158, R161, R162): the frame on TTXD ends, and the sender decides. -/
def execFrameBoundary (s : State) : Host.Outcome State Fault Refusal :=
  event frameEnds s

/-- LINE_ERROR (R146, R148). -/
def execLineError (s : State) : Host.Outcome State Fault Refusal :=
  event takeLineError s

/-- DISCARDED_CONTENT (R146, R148, R195). -/
def execDiscardedContent (c : TrunkContent) (s : State) : Host.Outcome State Fault Refusal :=
  event (takeContent c) s

/-- BAD_KIND (R149): a frame with this kind, tag and body arrives. -/
def execBadKind (kind tag : Byte) (body : List Byte) (s : State) : Host.Outcome State Fault Refusal :=
  event (frameArrives kind tag body) s

/-- REQUEST_FRAME (R150, R151): a REQUEST frame arrives; its intake follows in the same event when the
conditions hold. -/
def execRequestFrame (tag : Byte) (body : List Byte) (s : State) : Host.Outcome State Fault Refusal :=
  event (frameArrives 0x01 tag body) s

/-- DUPLICATE (R152): a REQUEST frame with this tag, code and arguments arrives again. -/
def execDuplicate (tag code : Byte) (args : List Byte) (s : State) : Host.Outcome State Fault Refusal :=
  event (requestArrives tag code args) s

/-- UNDEFINED_REQUEST (R151): a REQUEST frame with this body arrives. -/
def execUndefinedRequest (tag : Byte) (body : List Byte) (s : State) : Host.Outcome State Fault Refusal :=
  event (frameArrives 0x01 tag body) s

end Sys2Proof.Machine
end

