-- ==== Sys2Proof/Machine/Dispatch.lean ====
section
/-!
DEFINITION. The effect of each command on everything but the queue: one arm per constructor of Instr.
-/

namespace Sys2Proof.Machine

def exec (i : Instr) (s : State) : Host.Outcome State Fault Refusal :=
  match i with
  | .fullReset => Sys2Proof.Machine.execFullReset s
  | .fullResetEnd rsel1 rsel0 => Sys2Proof.Machine.execFullResetEnd rsel1 rsel0 s
  | .preambleLost ch => Sys2Proof.Machine.execPreambleLost ch s
  | .syncMissing ch => Sys2Proof.Machine.execSyncMissing ch s
  | .receiverError ch e => Sys2Proof.Machine.execReceiverError ch e s
  | .copy c => Sys2Proof.Machine.execCopy c s
  | .gatherDeadline station sequence => Sys2Proof.Machine.execGatherDeadline station sequence s
  | .settleDeadline station sequence => Sys2Proof.Machine.execSettleDeadline station sequence s
  | .windowOpen slot => Sys2Proof.Machine.execWindowOpen slot s
  | .windowClose slot => Sys2Proof.Machine.execWindowClose slot s
  | .lifetimeDeadline slot => Sys2Proof.Machine.execLifetimeDeadline slot s
  | .transmissionEnd => Sys2Proof.Machine.execTransmissionEnd s
  | .testEnd => Sys2Proof.Machine.execTestEnd s
  | .stoppingEnd => Sys2Proof.Machine.execStoppingEnd s
  | .ack nextExpected => Sys2Proof.Machine.execAck nextExpected s
  | .retransmitTimerExpiry => Sys2Proof.Machine.execRetransmitTimerExpiry s
  | .frameBoundary => Sys2Proof.Machine.execFrameBoundary s
  | .lineError => Sys2Proof.Machine.execLineError s
  | .discardedContent c => Sys2Proof.Machine.execDiscardedContent c s
  | .badKind kind tag body => Sys2Proof.Machine.execBadKind kind tag body s
  | .requestFrame tag body => Sys2Proof.Machine.execRequestFrame tag body s
  | .idleDeadline => Sys2Proof.Machine.execIdleDeadline s
  | .renotifyDeadline => Sys2Proof.Machine.execRenotifyDeadline s
  | .perSecondBoundary => Sys2Proof.Machine.execPerSecondBoundary s
  | .duplicate tag code args => Sys2Proof.Machine.execDuplicate tag code args s
  | .undefinedRequest tag body => Sys2Proof.Machine.execUndefinedRequest tag body s
  | .openSession tag mode => Sys2Proof.Machine.execOpenSession tag mode s
  | .closeSession tag => Sys2Proof.Machine.execCloseSession tag s
  | .getStatus tag => Sys2Proof.Machine.execGetStatus tag s
  | .warmRestart tag => Sys2Proof.Machine.execWarmRestart tag s
  | .setParameter tag number value => Sys2Proof.Machine.execSetParameter tag number value s
  | .getParameter tag number => Sys2Proof.Machine.execGetParameter tag number s
  | .putStation tag station mode gatherTime repeatWindow replyEnabled replyDelay copySpacing windowWidth => Sys2Proof.Machine.execPutStation tag station mode gatherTime repeatWindow replyEnabled replyDelay copySpacing windowWidth s
  | .dropStation tag station => Sys2Proof.Machine.execDropStation tag station s
  | .getStation tag station => Sys2Proof.Machine.execGetStation tag station s
  | .listStations tag start => Sys2Proof.Machine.execListStations tag start s
  | .queueDownlink tag station hostTag attempts lifetime payload => Sys2Proof.Machine.execQueueDownlink tag station hostTag attempts lifetime payload s
  | .cancelDownlink tag slot generation => Sys2Proof.Machine.execCancelDownlink tag slot generation s
  | .getDownlink tag slot generation => Sys2Proof.Machine.execGetDownlink tag slot generation s
  | .getCauses tag => Sys2Proof.Machine.execGetCauses tag s
  | .clearCause tag number => Sys2Proof.Machine.execClearCause tag number s
  | .getCounters tag group => Sys2Proof.Machine.execGetCounters tag group s
  | .clearCounters tag group => Sys2Proof.Machine.execClearCounters tag group s
  | .carrierTest tag duration => Sys2Proof.Machine.execCarrierTest tag duration s
  | .carrierStop tag => Sys2Proof.Machine.execCarrierStop tag s
  | .cellDecoded ch input => Sys2Proof.Machine.execCellDecoded ch input s
  | .partTimeAdvance => Sys2Proof.Machine.execPartTimeAdvance s

end Sys2Proof.Machine
end

