-- ==== Sys2Proof/Machine/Step.lean ====
section
/-!
DEFINITION. One step: the command at the front of the queue is carried out; with no command waiting, one
transmit tick passes.
-/

namespace Sys2Proof.Machine

/-- One step of the part. With an empty queue one transmit tick passes, which moves nothing but a
transmission or a cell in progress, and nothing while REFCLK is stopped (R190). DESIGN CHOICE (log entry 4). -/
def step (s : State) : Host.Outcome State Fault Refusal :=
  match s.pending with
  | c :: rest => exec c { s with pending := rest }
  | [] => .next (idleTick s)

/-- The command that a word of the opcode table spells stands at the front of the queue. -/
def State.withFetchWord (s : State) (nbits w : Nat) : State :=
  match decodeTableWord nbits w with
  | none => s
  | some c => { s with pending := c :: s.pending }

end Sys2Proof.Machine
end

