-- ==== Sys2Proof/Safety.lean ====
section
/-!
DEFINITION. The terms in which claims about the part are made: the states between events, the invariants
of each block, and what a request that is answered at once leaves behind.
-/

namespace Sys2Proof.Machine

/-! ## States between events -/

/-- R151: no held request can be taken in. -/
def NoIntake (s : State) : Prop :=
  s.trk.held = [] ∨ s.mre ≠ .ready ∨ 4 ≤ s.trk.responses.length

/-- R161, R162: none of the three sources has anything to send. -/
def NothingToSend (s : State) : Prop :=
  s.trk.responses = [] ∧ lowestNotice s = none ∧ streamEligible s = false

/-- A state in which an event has come to its end: nothing can be taken in, and TTXD carries a frame unless
there is nothing to send (R151, R161). -/
def Settled (s : State) : Prop :=
  NoIntake s ∧ (s.trk.line ≠ none ∨ NothingToSend s)

/-- R190, R196: the part is not held in full reset and REFCLK runs, so that it takes events. -/
abbrev Running (s : State) : Prop := s.inReset = false ∧ s.tbs.refclkRunning = true

/-- The part takes events and its last event has come to its end. -/
def Resting (s : State) : Prop := Running s ∧ Settled s

/-! ## Requests answered at once -/

/-- A REQUEST frame that begins now is taken in and carried out in the event of its arrival: the assembler
collects nothing, the engine is READY, nothing is held, the response queue has a free place (R151) and the
cache does not answer the request (R152). -/
structure TakesAtOnce (s : State) (tag code : Byte) : Prop where
  running : Running s
  clean : s.trk.assembler = .hunt ∨ s.trk.assembler = .collecting [] false
  ready : s.mre = .ready
  noneHeld : s.trk.held = []
  room : s.trk.responses.length < 4
  uncached : tag = 0 ∨ findCached s.trk.cache tag code = none

/-- The state in which a request that is taken at once is judged: its frame has been counted and has moved
the idle deadline (R149, R159). -/
def counted (s : State) : State := countValid (newContent s)

/-- The state in which a frame's kind is acted on when its opening delimiter ends what the assembler was
collecting (R148) and the frame is a valid one (R149, R159). -/
def framed (s : State) : State := countValid (newContent (openingDelimiter s))

/-- A response with a status and its results (R204). -/
def replyWith (tag code : Byte) (st : Status) (results : List Byte) : Response :=
  { tag := tag, code := code, status := st.code, results := results }

/-- The end of an event that answers a request afresh and leaves the blocks as in `t`: the response is
recorded under a nonzero tag (R153), joins the queue (R151), and the sender decides if the line is idle
(R161). -/
def answered (r : Response) (concludes : Bool) (t : State) : State :=
  senderDecides (pushResponse r concludes (recordResponse r t))

/-- A request refused in the event of its arrival: the status alone is answered and no block changes
(R168). -/
def refusedWith (tag code : Byte) (st : Status) (s : State) : State :=
  answered (replyWith tag code st []) false (counted s)

/-- A request carried out in the event of its arrival, with these results, leaving the blocks as in `t`. -/
def carriedOut (tag code : Byte) (results : List Byte) (t : State) : State :=
  answered (replyWith tag code .ok results) false t

/-- The commands of a list are carried out one after another from `s` and lead to `t`. -/
def carriesOut : List Instr → State → State → Prop
  | [], s, t => t = s
  | c :: cs, s, t => ∃ u, exec c s = .next u ∧ carriesOut cs u t

/-- The edges of a trunk line, each one a command, whose successive levels stand for `period` REFCLK periods each
from `start` on, after the level `last` (R146, R195). -/
def trunkEdges (period : Nat) : Bool → Nat → List Bool → List Instr
  | _, _, [] => []
  | last, start, l :: ls =>
    (if l = last then [] else [.discardedContent (.edge l start)]) ++ trunkEdges period l (start + period) ls

/-! ## Copies -/

/-- A copy has been handed over: its receiver is in HUNT and has counted it (R36). -/
def handed (c : Copy) (s : State) : State :=
  setReceiver c.channel
    { state := .hunt none
      counters := { (receiver s c.channel).counters with
        copiesDelivered := bump (receiver s c.channel).counters.copiesDelivered } } s

/-- A receiver that hands over a copy (R36, R38): the part is running, the receiver is enabled, and the copy
satisfies the format of R199. -/
structure HandsOver (c : Copy) (s : State) : Prop where
  running : Running s
  enabled : (rxState s c.channel).isEnabled = true
  format : c.wf = true

/-- The TELEGRAM item that closing a record produces (R60). -/
def itemOf (r : Record) (origin : Option Origin) (earlyClose : Bool) : TelegramItem :=
  { station := r.station, origin := origin, sequence := r.sequence, control := r.control, confirm := r.confirm,
    payload := r.payload, copies := r.copies, channels := r.channels, bestMargin := r.bestMargin,
    firstEnd := r.firstEnd, conflict := r.conflict, earlyClose := earlyClose }

/-- The OUTCOME item of place `i` when the downlink it holds reaches a result now (R88). -/
def outcomeNow (s : State) (i : Fin 16) (d : Downlink) (r : DownlinkResult) : Item :=
  .outcome { slot := i, generation := (s.dls.places[i]).generation, hostTag := d.hostTag, station := d.station,
             sequence := d.sequence, result := r, transmissions := d.transmissions, time := s.now }

/-- A place changes state and keeps its generation, and its slot is no candidate afterwards. -/
def withSlot (s : State) (i : Fin 16) (st : SlotState) : State :=
  { s with
    dls.places := s.dls.places.set i { generation := (s.dls.places[i]).generation, state := st }
    ftx.candidates := s.ftx.candidates.filter (fun j => j != i) }

/-- Place `i` is the one active slot of a station (R71, R87). -/
def OnlyActive (s : State) (id : StationId) (i : Fin 16) : Prop :=
  ∀ j : Fin 16, ((slotState s j).isOf id = true ∧ (slotState s j).isActive = true) ↔ j = i

/-- A station has no active slot (R76). -/
def NoneActive (s : State) (id : StationId) : Prop :=
  ∀ j : Fin 16, ¬ ((slotState s j).isOf id = true ∧ (slotState s j).isActive = true)

/-- The slots of the OUTCOME items of a list. -/
def slotsOf (its : List Item) : List (Fin 16) :=
  its.filterMap (fun i => match i with
    | .telegram _ => none
    | .outcome o => some o.slot)

/-- The places after those in a list have gone to FREE: each keeps its generation (R89). -/
def freed (places : Vector Place 16) (slots : List (Fin 16)) : Vector Place 16 :=
  Vector.ofFn (fun i =>
    { generation := places[i].generation, state := if i ∈ slots then .free else places[i].state })

/-! ## Invariants -/

/-- A property of the part while it is not held in full reset. While it is held, only the output lines and
part time are fixed (R196). -/
def WhileRunning (P : State → Prop) (s : State) : Prop := s.inReset = false → P s

/-- R141: ATTN is asserted exactly when a pending cause has a level not lower than ATTENTION_LEVEL, and is
deasserted while the part is held in full reset. -/
def AttnInv (s : State) : Prop := s.alm.attn = (!s.inReset && attnDue s)

/-- R176: every parameter lies in its range. -/
def ParamInv (s : State) : Prop := ∀ p : Param, p.inRange (getParam p s) = true

/-- The delivery stream (R115, R118, R120–R122, R127, R129): the window is short and numbered consecutively up
to the next delivery sequence, marked items stand at its newest end, at most 24 TELEGRAM items are held, the
timer runs only over a window in RUNNING, and a CLOSED session has an empty window. -/
structure StreamInv (s : State) : Prop where
  short : s.dst.window.length ≤ 8
  numbered : s.dst.window.map SentItem.sequence =
    (List.range s.dst.window.length).map
      (fun k => s.dst.nextSequence - BitVec.ofNat 8 (s.dst.window.length - k))
  marks : s.dst.window.Pairwise (fun a b => a.resendPending = true → b.resendPending = true)
  telegrams : s.dst.telegramCount ≤ 24
  timerOverWindow : s.dst.timer ≠ none → s.dst.window ≠ []
  stalledTimer : s.dst.state = .stalled → s.dst.timer = none
  runningCount : s.dst.state = .running → s.dst.timeoutCount ≤ 14
  anyCount : s.dst.timeoutCount ≤ 15
  limit : s.dst.stallLimit ≤ 15
  closedQuiet : s.trk.session = .closed →
    s.dst.window = [] ∧ s.dst.timer = none ∧ s.dst.state = .running ∧ s.dst.timeoutCount = 0

/-- A response that the request engine waits for is on the line (R158). -/
def LineFrame.concludes (f : LineFrame) : Bool :=
  match f.content with
  | .response q => q.concludes
  | .notice _ _ _ _ => false
  | .delivery _ _ => false

/-- The responses of a CLOSE-SESSION or WARM-RESTART carried out that have not been sent to their end. -/
def concluding (s : State) : Nat :=
  s.trk.responses.countP QueuedResponse.concludes + (if s.trk.line.any LineFrame.concludes then 1 else 0)

/-- The trunk link (R134, R136, R148, R150, R152, R154, R155, R159, R162, R166): its buffers keep their
sizes, the notice set holds only pending causes of level 1 or more and is empty in CLOSED, the idle deadline
is kept exactly when SESSION_IDLE_S is not 0, and the engine waits exactly while the response of a
CLOSE-SESSION or WARM-RESTART is still to be sent. -/
structure TrunkInv (s : State) : Prop where
  heldTwo : s.trk.held.length ≤ 2
  queueFour : s.trk.responses.length ≤ 4
  cacheFour : s.trk.cache.length ≤ 4
  cacheTags : (s.trk.cache.map CacheRecord.tag).Nodup
  cacheNonzero : ∀ k ∈ s.trk.cache, k.tag ≠ 0
  waitThree : s.trk.streamWait ≤ 3
  content : ∀ bs esc, s.trk.assembler = .collecting bs esc → bs.length ≤ 84
  members : ∀ c, inNotices s c = true → noticeDue s c = true
  idle : ∀ d, s.trk.session = .opened d → (d = none ↔ s.trk.sessionIdleS = 0)
  engine : concluding s = if s.mre = .ready then 0 else 1

/-- A PINNED entry for a station ID. -/
def hasPinned (s : State) (id : StationId) : Prop :=
  ∃ i e, lookup s.stab id = some (i, e) ∧ e.origin = .pinned

/-- The station table and the recent-telegram list (R1, R11, R44, R60, R71): no two entries of one station,
no two records of one telegram, at most 48 records; a LEARNED entry is IMMEDIATE with reply disabled; a
GATHERING record, and a slot that is HELD, ARMED, SENDING or AWAIT_CONFIRM, has a PINNED entry. -/
structure TableInv (s : State) : Prop where
  entries : ∀ (i j : Fin 64) (e f : Entry), s.stab.places[i] = some e → s.stab.places[j] = some f →
    e.station = f.station → i = j
  learned : ∀ (i : Fin 64) (e : Entry), s.stab.places[i] = some e → e.origin = .learned →
    e.settings.mode = .immediate ∧ e.settings.replyEnabled = false
  records : s.rpf.records.length ≤ 48
  telegrams : s.rpf.records.Pairwise (fun r q => ¬ (r.station = q.station ∧ r.sequence = q.sequence))
  gathering : ∀ r ∈ s.rpf.records, r.isGathering = true → hasPinned s r.station
  live : ∀ (i : Fin 16) (d : Downlink),
    (slotState s i = .held d ∨ slotState s i = .sending d ∨ slotState s i = .awaitConfirm d ∨
      ∃ o c, slotState s i = .armed d o c) → hasPinned s d.station

/-- The slots of the OUTCOME items that the stream holds. -/
def outcomeSlots (s : State) : List (Fin 16) := slotsOf s.dst.items

/-- Downlink store and transmitter (R69, R71, R99–R101, R115): the transmitter is SENDING exactly the slot
that is SENDING; candidates are ARMED and kept as a rising list; each slot in REPORTING has its one OUTCOME item; a station has at
most one active slot and at most four slots, the active one queued before every HELD one; a downlink has at most 8
attempts in all, and one that is HELD or ARMED has an attempt left; FTX_EN and FTX_KEY stand as the
transmitter's state requires, FTX_KEY in SENDING and STOPPING at the level of the present tick while one is
left; and the parameters give every telegram a preamble, which begins with a mark. -/
structure SlotInv (s : State) : Prop where
  keyed : ∀ i : Fin 16, (slotState s i).isSending = true ↔ ∃ snap n, s.ftx.state = .sending snap i n
  armed : ∀ i ∈ s.ftx.candidates, ∃ d o c, slotState s i = .armed d o c
  rising : s.ftx.candidates.Pairwise (fun i j => i < j)
  reported : ∀ i : Fin 16, (slotState s i).isReporting = true ↔ i ∈ outcomeSlots s
  once : (outcomeSlots s).Nodup
  oneActive : ∀ (i j : Fin 16) (d f : Downlink), (slotState s i).isActive = true →
    (slotState s j).isActive = true → (slotState s i).downlink = some d →
    (slotState s j).downlink = some f → d.station = f.station → i = j
  fourSlots : ∀ id : StationId, slotCount s id ≤ 4
  attempts : ∀ (i : Fin 16) (d : Downlink), (slotState s i).downlink = some d →
    d.attemptsLeft + d.transmissions ≤ 8
  orders : ∀ (i j : Fin 16) (d f : Downlink), (slotState s i).downlink = some d →
    (slotState s j).downlink = some f → d.station = f.station → d.order = f.order → i = j
  oldest : ∀ (i j : Fin 16) (d f : Downlink), (slotState s i).isActive = true →
    (slotState s i).downlink = some d → slotState s j = .held f → d.station = f.station → d.order < f.order
  spare : ∀ (i : Fin 16) (d : Downlink),
    (slotState s i = .held d ∨ ∃ o c, slotState s i = .armed d o c) → 1 ≤ d.attemptsLeft
  idleLines : s.ftx.state = .idle → s.ftx.enLine = false ∧ s.ftx.keyLine = false
  testLines : ∀ d, s.ftx.state = .testing d → s.ftx.enLine = true ∧ s.ftx.keyLine = true
  busyLines : (∀ snap i n, s.ftx.state = .sending snap i n → s.ftx.enLine = true) ∧
    (∀ rest, s.ftx.state = .stopping rest → s.ftx.enLine = true)
  keyLevels : (∀ snap i n l, s.ftx.state = .sending snap i n → snap.levels[n]? = some l → s.ftx.keyLine = l) ∧
    (∀ l rest, s.ftx.state = .stopping (l :: rest) → s.ftx.keyLine = l)
  firstMark : 1 ≤ s.ftx.params.halfBitTicks ∧ 1 ≤ s.ftx.params.preambleBits

end Sys2Proof.Machine
end

