-- ==== Sys2Proof/Certificates/Slice0/Obligations.lean ====
section
/-!
DEFINITION. The statements for the provers. Each docstring says what its statement says and which rules it
rests on. `Running s`: the part is not held in full reset and REFCLK runs. `Resting s`: it is running and its last
event has come to its end.
`TakesAtOnce s tag code`: a REQUEST frame that begins now is taken in and judged in the event of its arrival.
`settle` closes every event: intakes, then the sender's decision, then intakes again, in the order of log entry 7
(Obligations.SettleOnlySends says what it does).
-/

section Statements

open Sys2Proof Sys2Proof.Machine

/-! ## Steps, the queue and resets -/

/-- A step with a command at the front of the queue carries out that command on the state whose queue is the
rest. The queue is the model's own (log entry 1). -/
def Obligations.StepRunsFrontCommand : Prop :=
  ∀ (c : Instr) (rest : List Instr) (s : State), s.pending = c :: rest →
    step s = exec c { s with pending := rest }

/-- With no command waiting, a step is one transmit tick: in SENDING the position in the telegram advances by
one and FTX_KEY takes the level of the new position; in STOPPING the cell in progress advances by one tick; a
transmission or cell whose ticks are used up, and every other transmitter state, is left as it is. The model's
choice (log entry 4). While REFCLK is stopped, no tick passes and the lines hold their levels (R96, R97, R99,
R190). -/
def Obligations.EmptyQueueIsOneTick : Prop :=
  ∀ s : State, s.pending = [] →
    (s.tbs.refclkRunning = false → step s = .next s) ∧
    (s.tbs.refclkRunning = true →
    (∀ snap i n, s.ftx.state = .sending snap i n → n < snap.levels.length →
      step s = .next { s with ftx.state := .sending snap i (n + 1)
                              ftx.keyLine := snap.levels.getD (n + 1) s.ftx.keyLine }) ∧
    (∀ snap i n, s.ftx.state = .sending snap i n → snap.levels.length ≤ n → step s = .next s) ∧
    (∀ l rest, s.ftx.state = .stopping (l :: rest) →
      step s = .next { s with ftx.state := .stopping rest, ftx.keyLine := rest.headD s.ftx.keyLine }) ∧
    (s.ftx.state = .idle ∨ s.ftx.state = .stopping [] ∨ (∃ d, s.ftx.state = .testing d) → step s = .next s))

/-- The full reset. At its beginning, in any state, TTXD carries no frame (mark), FTX_KEY, FTX_EN and ATTN are
deasserted, the transmitter is IDLE with no candidate, the trunk receiver waits for a start bit, the assembler
is in HUNT, part time stands at 0 and the part is held; while it is held, every other command leaves the whole
state as it is, but for the word that REFCLK stops or runs. With REFCLK stopped, the end of the hold is kept with its
levels, and the reset ends when REFCLK starts. At its end the levels of RSEL1 and RSEL0 are read, the reference clock, the line rate and the
periods of a millisecond and a trunk bit follow from them, and every block is in its full-reset state, each
value as its rule gives it (R22, R42, R66, R92, R112, R132, R144, R164, R166, R189, R196, R197). That the end
acts in a state that is not held, what the hold leaves as it is until then, and how REFCLK's stopping reaches the
part, are the model's choices (log entries 2, 13 and 24). -/
def Obligations.FullReset : Prop :=
  (∀ s : State, ∃ t, exec .fullReset s = .next t ∧
    t.inReset = true ∧ t.trk.line = none ∧ t.ftx.keyLine = false ∧ t.ftx.enLine = false ∧
    t.alm.attn = false ∧ t.ftx.state = .idle ∧ t.ftx.candidates = [] ∧ t.trk.assembler = .hunt ∧
    t.trk.sampler = .idle ∧ t.tbs.partTime = 0 ∧ t.tbs.release = none ∧
    t.tbs.refclkRunning = s.tbs.refclkRunning ∧ t.pending = s.pending) ∧
  (∀ (c : Instr) (s : State), s.inReset = true → c ≠ .fullReset → (∀ a b, c ≠ .fullResetEnd a b) →
    (∀ ch r, c ≠ .cellDecoded ch (.refclk r)) → exec c s = .next s) ∧
  (∀ (ch : Channel) (s : State), s.inReset = true →
    exec (.cellDecoded ch (.refclk false)) s = .next { s with tbs.refclkRunning := false } ∧
    (s.tbs.release = none →
      exec (.cellDecoded ch (.refclk true)) s = .next { s with tbs.refclkRunning := true }) ∧
    (s.tbs.refclkRunning = false → ∀ a b : Bool,
      exec (.fullResetEnd a b) s = .next { s with tbs.release := some (a, b) } ∧
      exec (.cellDecoded ch (.refclk true)) { s with tbs.release := some (a, b) } =
        exec (.fullResetEnd a b) { s with tbs.refclkRunning := true })) ∧
  (∀ (a b : Bool) (s : State), s.tbs.refclkRunning = true → ∃ t, exec (.fullResetEnd a b) s = .next t ∧
    t.inReset = false ∧ t.pending = s.pending ∧ t.mre = .ready ∧
    t.tbs = { partTime := 0, rsel1 := a, rsel0 := b, refclkRunning := true, release := none } ∧
    (t.tbs.refclkMHz, t.tbs.trunkRate, t.tbs.millisecondPeriods, t.tbs.trunkBitPeriods) =
      (match a, b with
        | false, false => (4, 19200, 4000, 208)
        | false, true => (8, 57600, 8000, 139)
        | true, false => (12, 115200, 12000, 104)
        | true, true => (16, 460800, 16000, 35)) ∧
    t.profile = { code := .manchester, bitTimeUs := 256, preambleMin := 12, sync := 0x93B5,
                  checkPoly := 0x2F15, checkInit := 0xFFFF, maxLength := 38, enableA := true,
                  enableB := true } ∧
    t.fra.state = .hunt none ∧ t.frb.state = .hunt none ∧
    t.fra.counters.toList = List.replicate 8 0 ∧ t.frb.counters.toList = List.replicate 8 0 ∧
    (∀ i : Fin 64, t.stab.places[i] = none) ∧ t.stab.policy = .drop ∧ t.stab.unknownWindowMs = 5000 ∧
    t.rpf.records = [] ∧ t.rpf.counters.toList = List.replicate 11 0 ∧
    (∀ i : Fin 16, t.dls.places[i] = { generation := 0, state := .free }) ∧
    t.dls.counters.toList = List.replicate 10 0 ∧
    t.ftx.state = .idle ∧ t.ftx.candidates = [] ∧ t.ftx.keyLine = false ∧ t.ftx.enLine = false ∧
    t.ftx.params = { tickUs := 100, code := .manchester, halfBitTicks := 2, preambleBits := 16,
                     sync := 0x93B5 } ∧
    t.ftx.counters.toList = List.replicate 4 0 ∧
    t.dst.waiting = [] ∧ t.dst.window = [] ∧ t.dst.nextSequence = 0 ∧ t.dst.timer = none ∧
    t.dst.state = .running ∧ t.dst.timeoutCount = 0 ∧ t.dst.ackTimeoutMs = 250 ∧ t.dst.stallLimit = 5 ∧
    t.dst.counters.toList = List.replicate 6 0 ∧
    t.trk.sampler = .idle ∧ t.trk.assembler = .hunt ∧ t.trk.held = [] ∧ t.trk.responses = [] ∧ t.trk.cache = [] ∧
    t.trk.session = .closed ∧ t.trk.sessionIdleS = 30 ∧ t.trk.streamWait = 0 ∧ t.trk.line = none ∧
    (∀ c, inNotices t c = false) ∧ t.trk.counters.toList = List.replicate 15 0 ∧
    causeState t .restarted = { occurrence := some { count := 1, first := 0 }, level := 2 } ∧
    (∀ c, c ≠ .restarted →
      causeState t c = { occurrence := none, level := if c = .streamDrop ∨ c = .linkStall then 3 else 1 }) ∧
    t.alm.attentionLevel = 3 ∧ t.alm.renotifyS = 10 ∧ t.alm.renotifyDeadline = 10000 ∧
    t.alm.burstCount = 0 ∧ t.alm.errorBurstLimit = 20 ∧ t.alm.attn = false)

/-! ## Time base and the closing of events -/

/-- PART_TIME_ADVANCE at a resting part adds one to part time mod 2^32 and changes nothing else. A deadline
`ms` after part time `t`, read `k` milliseconds after `t`, is reached exactly when `ms ≤ k`, for spans shorter
than 2^31 and across the wrap of part time. While REFCLK is stopped, every command but FULL_RESET and the word that
REFCLK runs again leaves a part that is not held as it is: part time does not advance, no deadline expires, no cell
and no trunk bit ends, and the output lines hold their levels; when REFCLK runs again, the part is as it was before
the pause (R190, R191, R192). That REFCLK's stopping and running come as an operand of CELL_DECODED is the model's
choice (log entry 24). -/
def Obligations.PartTimeAndDeadlines : Prop :=
  (∀ (c : Instr) (s : State), s.tbs.refclkRunning = false → s.inReset = false → c ≠ .fullReset →
    (∀ ch, c ≠ .cellDecoded ch (.refclk true)) → exec c s = .next s) ∧
  (∀ (ch ch' : Channel) (s : State), Resting s →
    exec (.cellDecoded ch (.refclk true)) s = .next s ∧
    ∃ u, exec (.cellDecoded ch (.refclk false)) s = .next u ∧ u = { s with tbs.refclkRunning := false } ∧
      exec (.cellDecoded ch' (.refclk true)) u = .next s) ∧
  (∀ s : State, Resting s →
    exec .partTimeAdvance s = .next { s with tbs.partTime := s.tbs.partTime + 1 }) ∧
  (∀ (t : PartTime) (ms k : Nat), ms < 2147483648 → k < 2147483648 →
    reached (after t k) (after t ms) = decide (ms ≤ k))

/-- Every command in every state answers a next state, whose queue is the queue before the command: there is
no fault and no refusal, and no command is added to or taken from the queue (log entry 1). When the part takes
events after it, no held request can then be taken in, and TTXD carries a frame unless no
source has anything to send (R151, R161). -/
def Obligations.EveryCommandEndsSettled : Prop :=
  ∀ (c : Instr) (s : State), ∃ t, exec c s = .next t ∧ t.pending = s.pending ∧
    (Running t → Settled t)

/-- What closes an event. While a request is held, the engine is READY and the response queue has a free place,
the oldest held request is taken in and the closing goes on from there: a body without a code is answered
BAD_FORMAT, a repeated nonzero tag and code from the cache, any other request is judged, its response recorded
under a nonzero tag and queued. When no request can be taken in, a line that carries a frame keeps it and the
event is closed; on an idle line the sender takes a frame by its five cases, and the closing goes on. With no
request held only the delivery stream and the trunk link's response queue, wait count, notice set, line and
three send counters can change, and the stream's items stay the same items in the same order (R151, R152, R153,
R161, R162). The order of the closing is the model's choice: every intake that is possible comes before the sender's
decision, and the intakes that the decision makes possible come after it (log entry 7). -/
def Obligations.SettleOnlySends : Prop :=
  (∀ s : State,
    (Settled s → settle s = s) ∧
    (NoIntake s → s.trk.line ≠ none → settle s = s) ∧
    (NoIntake s → s.trk.line = none → settle s = settle (takeFrame s)) ∧
    (∀ q rest, s.trk.held = q :: rest → s.mre = .ready → s.trk.responses.length < 4 →
      settle s = settle (takeIn q { s with trk.held := rest })) ∧
    (s.trk.held = [] → ∃ (d : DeliveryStream) (k : TrunkLink), settle s =
        { s with
          dst := { s.dst with waiting := d.waiting, window := d.window, nextSequence := d.nextSequence,
                              timer := d.timer, counters := d.counters }
          trk := { s.trk with responses := k.responses, streamWait := k.streamWait, notices := k.notices,
                              line := k.line, counters := { s.trk.counters with
                                responsesSent := k.counters.responsesSent
                                noticesSent := k.counters.noticesSent
                                streamFramesSent := k.counters.streamFramesSent } } } ∧
      d.window.map SentItem.item ++ d.waiting = s.dst.items)) ∧
  (∀ (tag code : Byte) (args : List Byte) (s : State),
    takeIn { tag := tag, body := [] } s = { s with trk.responses := s.trk.responses ++
      [{ response := { tag := tag, code := 0x00, status := 0x01, results := [] }, concludes := false }] } ∧
    (∀ k, tag ≠ 0 → findCached s.trk.cache tag code = some k →
      takeIn { tag := tag, body := code :: args } s = { s with
        trk.responses := s.trk.responses ++ [{ response := k.response, concludes := false }]
        trk.counters.duplicates := bump s.trk.counters.duplicates }) ∧
    (tag = 0 ∨ findCached s.trk.cache tag code = none →
      let j := judgeRequest code args s
      let r : Response := { tag := tag, code := code, status := j.1.status.code, results := j.1.results }
      let closes := decide ((code = 0x11 ∨ code = 0x13) ∧ j.1.status = .ok)
      takeIn { tag := tag, body := code :: args } s = { j.2 with
        trk.cache := if tag = 0 then j.2.trk.cache else recordIn j.2.trk.cache r
        trk.responses := j.2.trk.responses ++ [{ response := r, concludes := closes }] })) ∧
  (∀ s : State,
    let eligible := s.trk.session ≠ .closed ∧ s.dst.state = .running ∧
      ((∃ w ∈ s.dst.window, w.resendPending = true) ∨ (s.dst.waiting ≠ [] ∧ s.dst.window.length < 8))
    let wait := fun n : Nat => if streamEligible s then n + 1 else 0
    (streamEligible s = true ↔ eligible) ∧
    (eligible → 3 ≤ s.trk.streamWait ∨ (s.trk.responses = [] ∧ ∀ c, inNotices s c = false) →
      ∃ q it u, streamSend s = some ((q, it), u) ∧
        takeFrame s = { u with
          trk.line := some { content := .delivery q it, aborted := false }
          trk.streamWait := 0
          trk.counters.streamFramesSent := bump s.trk.counters.streamFramesSent }) ∧
    (∀ q rest, s.trk.responses = q :: rest → ¬ (eligible ∧ 3 ≤ s.trk.streamWait) →
      takeFrame s = { s with
        trk.responses := rest
        trk.line := some { content := .response q, aborted := false }
        trk.streamWait := wait s.trk.streamWait
        trk.counters.responsesSent := bump s.trk.counters.responsesSent }) ∧
    (∀ c o level, s.trk.responses = [] → ¬ (eligible ∧ 3 ≤ s.trk.streamWait) → inNotices s c = true →
      (∀ c', inNotices s c' = true → c.number ≤ c'.number) →
      causeState s c = { occurrence := some o, level := level } →
      takeFrame s = { s with
        trk.notices := s.trk.notices.set c.index false
        trk.line := some { content := .notice c o.count level o.first, aborted := false }
        trk.streamWait := wait s.trk.streamWait
        trk.counters.noticesSent := bump s.trk.counters.noticesSent }) ∧
    (s.trk.responses = [] → (∀ c, inNotices s c = false) → ¬ eligible → takeFrame s = s))

/-! ## Field receivers -/

/-- PREAMBLE_LOST and SYNC_MISSING at a resting part: a receiver in HUNT, PREAMBLE or SYNC goes to HUNT
without a candidate and the one counter advances; a DISABLED receiver, and one in BODY, is left as it is; no
other block changes (R30, R31, R32, R38, R40; the receive states the two commands reach are log entry 5). -/
def Obligations.LostPreambleAndMissingSync : Prop :=
  ∀ (ch : Channel) (s : State), Resting s →
    let k := (receiver s ch).counters
    ((∃ c, rxState s ch = .hunt c) ∨ (∃ t n, rxState s ch = .preamble t n) ∨
        (∃ t w fs n, rxState s ch = .sync t w fs n) →
      exec (.preambleLost ch) s =
        .next (setReceiver ch { state := .hunt none, counters := { k with preambleLost := bump k.preambleLost } } s) ∧
      exec (.syncMissing ch) s =
        .next (setReceiver ch { state := .hunt none, counters := { k with syncMissing := bump k.syncMissing } } s)) ∧
    (rxState s ch = .disabled ∨ (∃ t bs cur n reg, rxState s ch = .body t bs cur n reg) →
      exec (.preambleLost ch) s = .next s ∧ exec (.syncMissing ch) s = .next s)

/-- RECEIVER_ERROR at an enabled receiver: its counter advances, the receiver goes to HUNT, and the burst
count advances up to 255; the error that takes the burst count to ERROR_BURST_LIMIT raises RX_ERROR_BURST, and
no other does. At a DISABLED receiver nothing is declared (R33, R34, R35, R38, R41, R142; log entries 5
and 12). -/
def Obligations.ReceiverErrorCountsAndBursts : Prop :=
  ∀ (ch : Channel) (e : BodyError) (s : State), Running s →
    let k := (receiver s ch).counters
    let k' : RxCounters := match e with
      | .codeViolation => { k with codeViolations := bump k.codeViolations }
      | .length => { k with lengthErrors := bump k.lengthErrors }
      | .check => { k with checkErrors := bump k.checkErrors }
      | .format => { k with formatErrors := bump k.formatErrors }
    let t := setReceiver ch { state := .hunt none, counters := k' } s
    let u := { t with alm.burstCount := if s.alm.burstCount < 255 then s.alm.burstCount + 1 else s.alm.burstCount }
    (rxState s ch = .disabled → exec (.receiverError ch e) s = .next (settle s)) ∧
    (rxState s ch ≠ .disabled → s.alm.burstCount < 255 → s.alm.burstCount + 1 = s.alm.errorBurstLimit →
      exec (.receiverError ch e) s = .next (settle (raise .rxErrorBurst u))) ∧
    (rxState s ch ≠ .disabled → ¬ (s.alm.burstCount < 255 ∧ s.alm.burstCount + 1 = s.alm.errorBurstLimit) →
      exec (.receiverError ch e) s = .next (settle u))

/-- A decided cell at a resting part. In HUNT a candidate 1 leaves the receiver without a count and a
candidate 0 takes the profile snapshot and counts 1. In PREAMBLE a 1 loses the preamble, a 0 advances the
preamble count, and the one that reaches RX_PREAMBLE_MIN of the snapshot enters SYNC with sixteen clean 0 bits
and sync count 0. In SYNC the bit enters the window; a window equal to the sync word leads to BODY with the
check register at its initial value and the soft cells of the window counted; otherwise the sync count runs
from the first 1 bit, and at 32 the sync word is missing. The cell reference moves with each cell (R25, R26,
R30, R31, R32, R33). -/
def Obligations.CellsOfPreambleAndSync : Prop :=
  ∀ (ch : Channel) (bit soft : Bool) (time : Nat) (s : State), Resting s →
    let k := (receiver s ch).counters
    let one := if soft = true then 1 else 0
    let cmd := Instr.cellDecoded ch (.decided bit soft time)
    (∀ c, rxState s ch = .hunt c →
      (bit = true → exec cmd s = .next (setReceiver ch { state := .hunt none, counters := k } s)) ∧
      (bit = false → exec cmd s =
        .next (setReceiver ch
          { state := .preamble
              { snap := { code := s.profile.code, bitTimeUs := s.profile.bitTimeUs,
                          preambleMin := s.profile.preambleMin, sync := s.profile.sync,
                          checkPoly := s.profile.checkPoly, checkInit := s.profile.checkInit,
                          maxLength := s.profile.maxLength }
                cellRef := time, progress := .fresh, softCells := one } 1
            counters := k } s))) ∧
    (∀ t n, rxState s ch = .preamble t n →
      let t' : Tracking :=
        { snap := t.snap, cellRef := time, progress := .fresh, softCells := t.softCells + one }
      (bit = true → exec cmd s =
        .next (setReceiver ch
          { state := .hunt none, counters := { k with preambleLost := bump k.preambleLost } } s)) ∧
      (bit = false → n + 1 < t.snap.preambleMin → exec cmd s =
        .next (setReceiver ch { state := .preamble t' (n + 1), counters := k } s)) ∧
      (bit = false → t.snap.preambleMin ≤ n + 1 → exec cmd s =
        .next (setReceiver ch { state := .sync t' 0 (List.replicate 16 false) 0, counters := k } s))) ∧
    (∀ t w fs n, rxState s ch = .sync t w fs n →
      let w' : Word16 := (w <<< 1) ||| (if bit then 1 else 0)
      let fs' := fs.tail ++ [soft]
      let n' := if n = 0 then (if bit then 1 else 0) else n + 1
      (w' = t.snap.sync → exec cmd s =
        .next (setReceiver ch
          { state := .body { snap := t.snap, cellRef := time, progress := .fresh,
                             softCells := t.softCells + fs'.count true } [] 0 0 t.snap.checkInit
            counters := k } s)) ∧
      (w' ≠ t.snap.sync → 32 ≤ n' → exec cmd s =
        .next (setReceiver ch
          { state := .hunt none, counters := { k with syncMissing := bump k.syncMissing } } s)) ∧
      (w' ≠ t.snap.sync → n' < 32 → exec cmd s =
        .next (setReceiver ch
          { state := .sync { snap := t.snap, cellRef := time, progress := .fresh, softCells := t.softCells }
              w' fs' n'
            counters := k } s)))

/-- The windows and class bands of the three line codes, in REFCLK periods, for every bit time and clock. A place of
`k` 24ths of the bit time is that many periods rounded to the nearest one; of two equally near, the choice is
free (log entry 10). For an edge `d` periods after the edge it is measured from, each code's table: stray edge,
boundary window, soft and clean bands, bit, missing edge. For a line without a further edge up to and including
`d` periods: BIPHASE_MARK decides a 0 at the end of its middle window, the others and every start or middle edge
that is missing are violations at the end of their window, and before it the cell goes on waiting (R26, R27,
R28, R29, R195; log entry 17 for the ends of windows). -/
def Obligations.WindowsOfTheLineCodes : Prop :=
  ∀ (tb : TimeBase) (us ref d : Nat) (soft rising : Bool),
    let n := us * tb.refclkMHz
    let p := tb.place24 us
    (∀ k, 48 * p k ≤ 2 * (n * k) + 24 ∧ 2 * (n * k) ≤ 48 * p k + 24) ∧
    (∀ k m, 2 * (n * k) = 48 * m + 24 → p k = if Config.tieRoundsUp (n * k) 24 then m + 1 else m) ∧
    (d < p 6 → manchesterEdge tb us ref .fresh rising (ref + d) = .violation) ∧
    (p 6 ≤ d → d < p 18 →
      manchesterEdge tb us ref .fresh rising (ref + d) = .waiting .boundarySeen ∧
      manchesterEdge tb us ref .boundarySeen rising (ref + d) = .violation) ∧
    (p 18 ≤ d → d ≤ p 30 →
      manchesterEdge tb us ref .fresh rising (ref + d) =
        .cell rising (decide (d < p 21 ∨ p 27 < d)) (ref + d) ∧
      manchesterEdge tb us ref .boundarySeen rising (ref + d) =
        .cell rising (decide (d < p 21 ∨ p 27 < d)) (ref + d)) ∧
    (p 30 < d → manchesterEdge tb us ref .fresh rising (ref + d) = .violation ∧
      manchesterEdge tb us ref .boundarySeen rising (ref + d) = .violation) ∧
    (d < p 6 → biphaseEdge tb us ref (.started ref soft) (ref + d) = .violation) ∧
    (p 6 ≤ d → d ≤ p 18 →
      biphaseEdge tb us ref (.started ref soft) (ref + d) =
        .cell true (soft || decide (d < p 9 ∨ p 15 < d)) ref) ∧
    (d ≤ p 18 → biphaseEdge tb us ref .fresh (ref + d) = .violation) ∧
    (p 18 < d → d ≤ p 30 →
      biphaseEdge tb us ref .fresh (ref + d) =
        .waiting (.started (ref + d) (decide (d < p 21 ∨ p 27 < d)))) ∧
    (p 30 < d → biphaseEdge tb us ref .fresh (ref + d) = .violation) ∧
    (pulseEdge tb us ref (.started ref soft) true (ref + d) = .violation) ∧
    (d < p 2 → pulseEdge tb us ref (.started ref soft) false (ref + d) = .violation) ∧
    (p 2 ≤ d → d < p 12 →
      pulseEdge tb us ref (.started ref soft) false (ref + d) =
        .cell false (soft || decide (d < p 5 ∨ p 11 < d)) ref) ∧
    (p 12 ≤ d → d ≤ p 22 →
      pulseEdge tb us ref (.started ref soft) false (ref + d) =
        .cell true (soft || decide (d < p 13 ∨ p 19 < d)) ref) ∧
    (p 22 < d → pulseEdge tb us ref (.started ref soft) false (ref + d) = .violation) ∧
    (pulseEdge tb us ref .fresh false (ref + d) = .violation) ∧
    (d < p 18 → pulseEdge tb us ref .fresh true (ref + d) = .violation) ∧
    (p 18 ≤ d → d ≤ p 30 →
      pulseEdge tb us ref .fresh true (ref + d) =
        .waiting (.started (ref + d) (decide (d < p 21 ∨ p 27 < d)))) ∧
    (p 30 < d → pulseEdge tb us ref .fresh true (ref + d) = .violation) ∧
    (∀ x : CellProgress, (x = .fresh ∨ x = .boundarySeen →
      (d < p 30 → quietVerdict tb .manchester us ref x (ref + d) = .waiting x) ∧
      (p 30 ≤ d → quietVerdict tb .manchester us ref x (ref + d) = .violation))) ∧
    (d < p 30 → quietVerdict tb .biphaseMark us ref .fresh (ref + d) = .waiting .fresh ∧
      quietVerdict tb .pulseWidth us ref .fresh (ref + d) = .waiting .fresh) ∧
    (p 30 ≤ d → quietVerdict tb .biphaseMark us ref .fresh (ref + d) = .violation ∧
      quietVerdict tb .pulseWidth us ref .fresh (ref + d) = .violation) ∧
    (d < p 18 →
      quietVerdict tb .biphaseMark us ref (.started ref soft) (ref + d) = .waiting (.started ref soft)) ∧
    (p 18 ≤ d → quietVerdict tb .biphaseMark us ref (.started ref soft) (ref + d) = .cell false soft ref) ∧
    (d < p 22 →
      quietVerdict tb .pulseWidth us ref (.started ref soft) (ref + d) = .waiting (.started ref soft)) ∧
    (p 22 ≤ d → quietVerdict tb .pulseWidth us ref (.started ref soft) (ref + d) = .violation)

/-- An edge of the field line at a resting part. In HUNT without a candidate it anchors: a falling edge under
MANCHESTER is a clean 0 at once, any edge under BIPHASE_MARK and a rising edge under PULSE_WIDTH anchor a
candidate cell with the code and bit time of the profile, and the other edges are ignored. Where a cell is
being timed and no window has ended before the edge, the edge does what its verdict says: it decides the cell,
is a code violation (a lost preamble outside BODY, an error in BODY), or is remembered. A line that has been
quiet up to and including a timestamp does what that verdict says, and goes on with the cell after a cell that
it decides; an edge that comes after a window has ended acts on what the quiet line before it has led to. At a
DISABLED receiver edges, quiet lines and decided cells change nothing (R25, R26, R27, R28, R29, R30, R31, R32, R33,
R38; log entry 17). That a window without an edge is decided by the command that brings the next edge or the quiet
line, and at the part time of that command, is the model's choice (log entry 23). -/
def Obligations.EdgeOnTheFieldLine : Prop :=
  ∀ (ch : Channel) (rising : Bool) (time : Nat) (s : State), Resting s →
    let cmd := Instr.cellDecoded ch (.edge rising time)
    (rxState s ch = .hunt none →
      (s.profile.code = .manchester → rising = false →
        exec cmd s = exec (.cellDecoded ch (.decided false false time)) s) ∧
      (s.profile.code = .biphaseMark ∨ (s.profile.code = .pulseWidth ∧ rising = true) →
        exec cmd s = .next (setReceiver ch
          { state := .hunt (some { anchor := time, code := s.profile.code, bitTimeUs := s.profile.bitTimeUs })
            counters := (receiver s ch).counters } s)) ∧
      ((s.profile.code = .manchester ∧ rising = true) ∨ (s.profile.code = .pulseWidth ∧ rising = false) →
        exec cmd s = .next s)) ∧
    (∀ code us ref p, timedCell (rxState s ch) = some (code, us, ref, p) →
      quietVerdict s.tbs code us ref p (time - 1) = .waiting p →
      (∀ bit soft r, edgeVerdict s.tbs code us ref p rising time = .cell bit soft r →
        exec cmd s = exec (.cellDecoded ch (.decided bit soft r)) s) ∧
      (edgeVerdict s.tbs code us ref p rising time = .violation →
        ((∃ t bs cur n reg, rxState s ch = .body t bs cur n reg) →
          exec cmd s = exec (.receiverError ch .codeViolation) s) ∧
        ((∀ t bs cur n reg, rxState s ch ≠ .body t bs cur n reg) →
          exec cmd s = exec (.preambleLost ch) s)) ∧
      (∀ p', edgeVerdict s.tbs code us ref p rising time = .waiting p' →
        exec cmd s = .next (setProgress ch p' s))) ∧
    (timedCell (rxState s ch) = none → exec (.cellDecoded ch (.quiet time)) s = .next s) ∧
    (∀ code us ref p, timedCell (rxState s ch) = some (code, us, ref, p) →
      (quietVerdict s.tbs code us ref p time = .waiting p → exec (.cellDecoded ch (.quiet time)) s = .next s) ∧
      (∀ bit soft r, quietVerdict s.tbs code us ref p time = .cell bit soft r →
        ∃ u, exec (.cellDecoded ch (.decided bit soft r)) s = .next u ∧
          exec (.cellDecoded ch (.quiet time)) s = exec (.cellDecoded ch (.quiet time)) u) ∧
      (quietVerdict s.tbs code us ref p time = .violation →
        ((∃ t bs cur n reg, rxState s ch = .body t bs cur n reg) →
          exec (.cellDecoded ch (.quiet time)) s = exec (.receiverError ch .codeViolation) s) ∧
        ((∀ t bs cur n reg, rxState s ch ≠ .body t bs cur n reg) →
          exec (.cellDecoded ch (.quiet time)) s = exec (.preambleLost ch) s)) ∧
      (quietVerdict s.tbs code us ref p (time - 1) ≠ .waiting p →
        ∃ u, exec (.cellDecoded ch (.quiet (time - 1))) s = .next u ∧ exec cmd s = exec cmd u)) ∧
    (rxState s ch = .disabled → ∀ input : CellInput, (∀ r, input ≠ .refclk r) →
      exec (.cellDecoded ch input) s = .next s)

/-- The cells of a length byte, body and check, decided one after another by a receiver that has just entered
BODY, whatever their classes and times, end exactly as the hand-over of the copy they spell: the fields of the
uplink layout, the received check, the part time of the last cell, and the margin 15 less the soft cells,
where the check is the one the snapshot's polynomial and initial value give and the length byte is within the
snapshot's limit (R33, R34, R35, R36, R37, R199, R201). -/
def Obligations.BodyCellsHandOverTheCopy : Prop :=
  ∀ (c : Copy) (t : Tracking) (s : State) (marks : List (Bool × Nat)),
    let bytes := copyLengthAndBody c c.remaining.val
    let check := checkOf t.snap.checkPoly t.snap.checkInit bytes
    let bits := bytes.flatMap byteBits ++ wordBits check
    Resting s → c.wf = true → rxState s c.channel = .body t [] 0 0 t.snap.checkInit →
    5 + (if c.confirm.isSome then 1 else 0) + c.payload.length ≤ t.snap.maxLength →
    marks.length = bits.length → c.check = check → c.endTime = s.now →
    c.margin.val = 15 - (t.softCells + (marks.map Prod.fst).count true) →
    ∃ u, exec (.copy c) s = .next u ∧
      carriesOut (List.zipWith (fun b m => Instr.cellDecoded c.channel (.decided b m.1 m.2)) bits marks) s u

/-- The cells of a telegram that a receiver in BODY does not hand over end exactly as the receiver error they
amount to: a length byte outside 5 to the snapshot's limit after its eight cells; a received check other than
the one computed; a matching check over a body that breaks the format, as the body of every downlink does,
whose control byte is 0x10 (R33, R34, R35, R41, R200). -/
def Obligations.BodyCellsEndInAnError : Prop :=
  (∀ (ch : Channel) (t : Tracking) (s : State) (len : Byte) (marks : List (Bool × Nat)),
    Resting s → rxState s ch = .body t [] 0 0 t.snap.checkInit →
    ¬ (5 ≤ len.toNat ∧ len.toNat ≤ t.snap.maxLength) → marks.length = 8 →
    ∃ u, exec (.receiverError ch .length) s = .next u ∧
      carriesOut (List.zipWith (fun b m => Instr.cellDecoded ch (.decided b m.1 m.2)) (byteBits len) marks) s u) ∧
  (∀ (ch : Channel) (t : Tracking) (s : State) (body : List Byte) (received : Word16)
    (marks : List (Bool × Nat)),
    let bytes := byteOf body.length :: body
    let bits := bytes.flatMap byteBits ++ wordBits received
    let cells := List.zipWith (fun b m => Instr.cellDecoded ch (.decided b m.1 m.2)) bits marks
    Resting s → rxState s ch = .body t [] 0 0 t.snap.checkInit →
    5 ≤ body.length → body.length ≤ t.snap.maxLength → body.length ≤ 255 → marks.length = bits.length →
    (received ≠ checkOf t.snap.checkPoly t.snap.checkInit bytes →
      ∃ u, exec (.receiverError ch .check) s = .next u ∧ carriesOut cells s u) ∧
    (received = checkOf t.snap.checkPoly t.snap.checkInit bytes → readUplink body = none →
      ∃ u, exec (.receiverError ch .format) s = .next u ∧ carriesOut cells s u)) ∧
  (∀ (station : StationId) (sequence : Byte) (payload : List Byte),
    readUplink ([0x10] ++ be24 station ++ [sequence] ++ payload) = none)

/-! ## Station table and repeat filter -/

/-- A copy that the filter drops, at a settled part: of a station in BLOCK, of an unknown station under DROP,
and, matching no record, one judged LATE_REPEAT (the last sequence again) or STALE (128 to 255 ahead of the
last sequence). The one filter counter advances, a judged copy advances the entry's stale count, and nothing
else changes but the receiver that handed the copy over (R5, R14, R15, R36, R47, R50). -/
def Obligations.DroppedCopies : Prop :=
  ∀ (c : Copy) (s : State), HandsOver c s → Settled s →
    (∀ i e, lookup s.stab c.station = some (i, e) → e.settings.mode = .block →
      exec (.copy c) s = .next { handed c s with rpf.counters.blocked := bump s.rpf.counters.blocked }) ∧
    (lookup s.stab c.station = none → s.stab.policy = .drop →
      exec (.copy c) s =
        .next { handed c s with rpf.counters.unknownDropped := bump s.rpf.counters.unknownDropped }) ∧
    (∀ i e p, lookup s.stab c.station = some (i, e) → e.settings.mode ≠ .block → e.lastSequence = some p →
      (∀ r ∈ s.rpf.records, ¬ (r.station = c.station ∧ r.sequence = c.sequence)) →
      (c.sequence = p → exec (.copy c) s =
        .next { handed c s with
          stab.places := s.stab.places.set i (some { e with stale := bump e.stale })
          rpf.counters.lateRepeats := bump s.rpf.counters.lateRepeats }) ∧
      (128 ≤ (c.sequence - p).toNat → exec (.copy c) s =
        .next { handed c s with
          stab.places := s.stab.places.set i (some { e with stale := bump e.stale })
          rpf.counters.stale := bump s.rpf.counters.stale }))

/-- Record match, at a settled part, for a copy with an entry or forwarded: equal normalised checks make a
duplicate, which is counted in the filter and the entry and merged into the record only while it is GATHERING;
different ones make a conflict, which only sets the record's CONFLICT flag and the conflicts count (R16, R45,
R46, R48, R49). -/
def Obligations.RecordMatch : Prop :=
  ∀ (c : Copy) (s : State) (r : Record), HandsOver c s → Settled s →
    (∀ i e, lookup s.stab c.station = some (i, e) → e.settings.mode ≠ .block) →
    (lookup s.stab c.station = none → s.stab.policy = .forward) →
    findRecord s.rpf.records c.station c.sequence = some r →
    let same (x : Record) : Prop := x.station = c.station ∧ x.sequence = c.sequence
    let seen : ChannelsSeen := match c.channel with
      | .A => .a
      | .B => .b
    let merged (x : Record) : Record :=
      if x.isGathering then
        { x with copies := if x.copies < 255 then x.copies + 1 else x.copies
                 channels := if x.channels = seen then seen else .ab
                 bestMargin := max x.bestMargin c.margin.val }
      else x
    ∃ t : State, exec (.copy c) s = .next t ∧
      (r.check = normalisedCheck c s.profile.checkPoly s.profile.checkInit →
        t = { handed c s with
          stab.places := match lookup s.stab c.station with
            | some (i, e) => s.stab.places.set i (some { e with duplicates := bump e.duplicates })
            | none => s.stab.places
          rpf.records := t.rpf.records
          rpf.counters.duplicates := bump s.rpf.counters.duplicates } ∧
        t.rpf.records.length = s.rpf.records.length ∧
        ∀ (n : Nat) (x y : Record), s.rpf.records[n]? = some x → t.rpf.records[n]? = some y →
          (same x → y = merged x) ∧ (¬ same x → y = x)) ∧
      (r.check ≠ normalisedCheck c s.profile.checkPoly s.profile.checkInit →
        t = { handed c s with
          rpf.records := t.rpf.records
          rpf.counters.conflicts := bump s.rpf.counters.conflicts } ∧
        t.rpf.records.length = s.rpf.records.length ∧
        ∀ (n : Nat) (x y : Record), s.rpf.records[n]? = some x → t.rpf.records[n]? = some y →
          (same x → y = { x with conflict := true }) ∧ (¬ same x → y = x))

/-- Acceptance of a copy with an entry that matches no record and is judged NEW (no last sequence, or 1 to 127
ahead of it): the entry hears it, the accepted count advances, a place is made when 48 records are held, the
record joins the newest end, a record created SETTLED produces its item at once, and the downlink store is
notified, in this order (R14, R15, R45, R46, R50, R51, R54, R55, R60). -/
def Obligations.AcceptedCopyWithEntry : Prop :=
  ∀ (c : Copy) (s : State) (i : Fin 64) (e : Entry), HandsOver c s →
    lookup s.stab c.station = some (i, e) → e.settings.mode ≠ .block →
    (∀ r ∈ s.rpf.records, ¬ (r.station = c.station ∧ r.sequence = c.sequence)) →
    (e.lastSequence = none ∨
      ∃ p, e.lastSequence = some p ∧ 1 ≤ (c.sequence - p).toNat ∧ (c.sequence - p).toNat ≤ 127) →
    let heard := { handed c s with
      stab.places := s.stab.places.set i (some { e with
        lastSequence := some c.sequence, lastHeard := some c.endTime, accepted := bump e.accepted })
      rpf.counters.accepted := bump s.rpf.counters.accepted }
    let room := if 48 ≤ s.rpf.records.length then makePlace heard else heard
    let gathers := e.settings.mode = .gather ∧ c.urgent = false
    let r (st : RecordState) : Record :=
      { station := c.station, sequence := c.sequence
        check := normalisedCheck c s.profile.checkPoly s.profile.checkInit, firstEnd := c.endTime, state := st
        copies := 1, channels := (match c.channel with
          | .A => .a
          | .B => .b)
        bestMargin := c.margin.val, conflict := false, origin := some e.origin
        control := { listen := c.listen, urgent := c.urgent, remaining := c.remaining }, confirm := c.confirm
        payload := c.payload, settleDeadline := after c.endTime e.settings.repeatMs }
    let n : FirstCopy := { station := c.station, listen := c.listen, remaining := c.remaining.val
                           confirm := c.confirm, endTime := c.endTime }
    (gathers → exec (.copy c) s = .next (settle (notifyStore n
      { room with rpf.records :=
          room.rpf.records ++ [r (.gathering (after c.endTime e.settings.gatherMs))] }))) ∧
    (¬ gathers → exec (.copy c) s = .next (settle (notifyStore n
      (offerTelegram (itemOf (r .settled) (some e.origin) false)
        { room with rpf.records := room.rpf.records ++ [r .settled] }))))

/-- Acceptance of a forwarded copy that matches no record, at a part under FORWARD: it is not judged, no entry
changes, its record is SETTLED with origin NONE and the unknown-station window, its item is produced at once
with origin NONE, and the downlink store is not notified (R8, R45, R47, R50, R51, R54, R55, R60). -/
def Obligations.AcceptedForwardedCopy : Prop :=
  ∀ (c : Copy) (s : State), HandsOver c s →
    lookup s.stab c.station = none → s.stab.policy = .forward →
    (∀ r ∈ s.rpf.records, ¬ (r.station = c.station ∧ r.sequence = c.sequence)) →
    let tallied := { handed c s with rpf.counters.accepted := bump s.rpf.counters.accepted }
    let room := if 48 ≤ s.rpf.records.length then makePlace tallied else tallied
    let r : Record :=
      { station := c.station, sequence := c.sequence
        check := normalisedCheck c s.profile.checkPoly s.profile.checkInit, firstEnd := c.endTime
        state := .settled, copies := 1, channels := (match c.channel with
          | .A => .a
          | .B => .b)
        bestMargin := c.margin.val, conflict := false, origin := none
        control := { listen := c.listen, urgent := c.urgent, remaining := c.remaining }, confirm := c.confirm
        payload := c.payload, settleDeadline := after c.endTime s.stab.unknownWindowMs }
    exec (.copy c) s = .next (settle (offerTelegram (itemOf r none false)
      { room with rpf.records := room.rpf.records ++ [r] }))

/-- A place is made: the oldest SETTLED record is removed; with every record GATHERING the oldest one produces
its item with EARLY_CLOSE and the origin of the station's entry, and is removed. Either way exactly that record
leaves, the others keep their order, evictions advances and RTL_PRESSURE is raised (R53, R60). -/
def Obligations.PlaceIsMade : Prop :=
  ∀ (s : State) (before others : List Record) (r : Record),
    s.rpf.records = before ++ r :: others →
    (∀ x ∈ before ++ others, ¬ (x.station = r.station ∧ x.sequence = r.sequence)) →
    (∀ x ∈ before, x.isGathering = true) →
    (r.isGathering = false →
      makePlace s = raise .rtlPressure
        { s with rpf.records := before ++ others, rpf.counters.evictions := bump s.rpf.counters.evictions }) ∧
    (before = [] → r.isGathering = true → (∀ x ∈ others, x.isGathering = true) →
      let origin := match r.origin with
        | none => none
        | some _ => (lookup s.stab r.station).map (fun p => p.2.origin)
      let t := offerTelegram (itemOf r origin true) s
      makePlace s = raise .rtlPressure
        { t with rpf.records := others, rpf.counters.evictions := bump s.rpf.counters.evictions })

/-- Under LEARN a copy of a station without an entry is handled as if an entry of the learn template, LEARNED
and with the creation values of the dynamic fields, had stood in the place that learning takes, with the
learned count advanced; when no place can be had, LEARN_FULL is raised, learn failures advances and the copy
goes on as a forwarded copy. The place is the free one of lowest index, or the one that the eviction choice
names: a LEARNED entry whose last heard is oldest, an absent last heard being older than every present one,
ages taken mod 2^32, the lowest index among equals; there is no choice exactly when no entry is LEARNED (R3,
R7, R9, R10, R11, R13, R193). -/
def Obligations.LearnMakesOrFails : Prop :=
  (∀ (now : PartTime) (t : StationTable),
    let isLearned (i : Fin 64) : Prop := ∃ e, t.places[i] = some e ∧ e.origin = .learned
    let rank (i : Fin 64) : Nat := match t.places[i].bind Entry.lastHeard with
      | none => 4294967296
      | some heard => (now - heard).toNat
    (∀ i, evictee now t = some i ↔
      isLearned i ∧ ∀ j, isLearned j → rank j < rank i ∨ (rank j = rank i ∧ i ≤ j)) ∧
    (evictee now t = none ↔ ∀ i, ¬ isLearned i)) ∧
  ∀ (c : Copy) (s : State), HandsOver c s → lookup s.stab c.station = none → s.stab.policy = .learn →
    (∀ i : Fin 64, (s.stab.places[i] = none ∧ (∀ j, j < i → s.stab.places[j] ≠ none)) ∨
        ((∀ j : Fin 64, s.stab.places[j] ≠ none) ∧ evictee s.now s.stab = some i) →
      exec (.copy c) s = exec (.copy c)
        { s with
          stab.places := s.stab.places.set i (some
            { station := c.station, origin := .learned
              settings := { mode := .immediate, gatherMs := 10, repeatMs := s.stab.unknownWindowMs
                            replyEnabled := false, replyDelayMs := 10, copySpacingMs := 0, windowWidthMs := 10 }
              lastSequence := none, lastHeard := none, nextDownlinkSeq := 0, accepted := 0, duplicates := 0
              stale := 0 })
          rpf.counters.learned := bump s.rpf.counters.learned }) ∧
    ((∀ j : Fin 64, s.stab.places[j] ≠ none) → evictee s.now s.stab = none →
      exec (.copy c) s = .next (settle (afterLookup c none (raise .learnFull
        { handed c s with rpf.counters.learnFailures := bump s.rpf.counters.learnFailures }))))

/-- Every copy handed over at a settled part advances copies delivered of its channel by one and exactly one
of blocked, unknown dropped, duplicates, conflicts, late repeats, stale and accepted by one, with none of them
saturated (R40, R65). -/
def Obligations.EveryCopyIsCountedOnce : Prop :=
  ∀ (c : Copy) (s t : State), HandsOver c s → Settled s → exec (.copy c) s = .next t →
    let seven (k : FilterCounters) : List Nat :=
      [k.blocked, k.unknownDropped, k.duplicates, k.conflicts, k.lateRepeats, k.stale, k.accepted]
    (∀ n ∈ seven s.rpf.counters, n < 65535) →
    (receiver s c.channel).counters.copiesDelivered < 65535 →
    (seven t.rpf.counters).sum = (seven s.rpf.counters).sum + 1 ∧
    (receiver t c.channel).counters.copiesDelivered =
      (receiver s c.channel).counters.copiesDelivered + 1 ∧
    ((∃ k, k < 7 ∧ ∀ n, n < 7 → (seven t.rpf.counters)[n]? =
        (seven s.rpf.counters)[n]?.map (fun x => if n = k then x + 1 else x)))

/-- The deadlines of a record. GATHER_DEADLINE reached by a GATHERING record: its item is produced with
EARLY_CLOSE clear and the origin of the station's entry, and the record becomes SETTLED and stays.
SETTLE_DEADLINE reached: a SETTLED record is removed; a GATHERING one first produces its item and is then
removed. Before the deadline nothing changes but the end of the event (R56, R57, R60, R192; log entry 6). -/
def Obligations.RecordDeadlines : Prop :=
  ∀ (id : StationId) (q : Byte) (s : State) (r : Record), Running s →
    findRecord s.rpf.records id q = some r →
    let origin := match r.origin with
      | none => none
      | some _ => (lookup s.stab id).map (fun p => p.2.origin)
    let others := s.rpf.records.filter (fun x => decide (¬ (x.station = id ∧ x.sequence = q)))
    (∀ d, r.state = .gathering d → reached s.now d = true →
      exec (.gatherDeadline id q) s = .next (settle (offerTelegram (itemOf r origin false)
        { s with rpf.records := s.rpf.records.map (fun x =>
            if x.station = id ∧ x.sequence = q then { x with state := .settled } else x) }))) ∧
    ((r.state = .settled ∨ ∃ d, r.state = .gathering d ∧ reached s.now d = false) →
      exec (.gatherDeadline id q) s = .next (settle s)) ∧
    (reached s.now r.settleDeadline = true →
      (r.isGathering = false →
        exec (.settleDeadline id q) s = .next (settle { s with rpf.records := others })) ∧
      (r.isGathering = true →
        exec (.settleDeadline id q) s =
          .next (settle { offerTelegram (itemOf r origin false) s with rpf.records := others }))) ∧
    (reached s.now r.settleDeadline = false → exec (.settleDeadline id q) s = .next (settle s))

/-- The offer of a TELEGRAM item: with 24 TELEGRAM items in the stream it does not enter, is counted lost and
raises STREAM_DROP; otherwise, URGENT clear, it joins the tail, and URGENT set, it is placed immediately ahead
of the first waiting item that is not an URGENT TELEGRAM item, or joins the tail when there is none. Session
and stream state play no part (R116). -/
def Obligations.TelegramOfferTakesItsPlace : Prop :=
  ∀ (t : TelegramItem) (s : State),
    (24 ≤ (s.dst.items.filter Item.isTelegram).length →
      offerTelegram t s =
        raise .streamDrop { s with rpf.counters.itemsLost := bump s.rpf.counters.itemsLost }) ∧
    ((s.dst.items.filter Item.isTelegram).length < 24 → t.control.urgent = false →
      offerTelegram t s = { s with dst.waiting := s.dst.waiting ++ [.telegram t] }) ∧
    ((s.dst.items.filter Item.isTelegram).length < 24 → t.control.urgent = true →
      ∀ before others, s.dst.waiting = before ++ others →
        (∀ x ∈ before, ∃ u : TelegramItem, x = .telegram u ∧ u.control.urgent = true) →
        (∀ x, others.head? = some x → ¬ ∃ u : TelegramItem, x = .telegram u ∧ u.control.urgent = true) →
        offerTelegram t s = { s with dst.waiting := before ++ .telegram t :: others })

/-! ## Downlink store and field transmitter -/

/-- The confirmation step of a first-copy notification, which comes before the arming step. A slot in
AWAIT_CONFIRM is CONFIRMED by its own downlink sequence, otherwise FAILED with no attempts left, otherwise back
in HELD; an ARMED slot returns to HELD and leaves the candidates; a SENDING slot counts a busy uplink. A
confirm that makes no slot CONFIRMED is a stale confirm. A result sets REPORTING, its counter and its OUTCOME
item at the tail of the waiting queue (R74, R75, R87, R88, R91, R117). -/
def Obligations.FirstCopyConfirms : Prop :=
  ∀ (n : FirstCopy) (s : State),
    let stale := { s with dls.counters.staleConfirms :=
      if n.confirm.isSome then bump s.dls.counters.staleConfirms else s.dls.counters.staleConfirms }
    notifyStore n s = armStep n (confirmStep n s) ∧
    (NoneActive s n.station → confirmStep n s = stale) ∧
    ∀ i, OnlyActive s n.station i →
      (∀ d, slotState s i = .awaitConfirm d →
        (n.confirm = some d.sequence → confirmStep n s =
          { withSlot s i (.reporting d .confirmed s.now) with
            dls.counters.confirmed := bump s.dls.counters.confirmed
            dst.waiting := s.dst.waiting ++ [outcomeNow s i d .confirmed] }) ∧
        (n.confirm ≠ some d.sequence → d.attemptsLeft = 0 → confirmStep n s =
          { withSlot stale i (.reporting d .failed s.now) with
            dls.counters.failed := bump s.dls.counters.failed
            dst.waiting := s.dst.waiting ++ [outcomeNow s i d .failed] }) ∧
        (n.confirm ≠ some d.sequence → 0 < d.attemptsLeft → confirmStep n s =
          { stale with dls.places :=
              s.dls.places.set i { generation := s.dls.places[i].generation, state := .held d } })) ∧
      (∀ d o c, slotState s i = .armed d o c → confirmStep n s = withSlot stale i (.held d)) ∧
      (∀ d, slotState s i = .sending d → confirmStep n s =
        { stale with dls.counters.busyUplinks := bump s.dls.counters.busyUplinks })

/-- The arming step of a first-copy notification: with LISTEN set, reply enabled in the entry, a HELD slot and
no active slot of the station, the HELD slot earliest in queue order is armed with window open = end time + r ×
copy spacing + reply delay and window close = window open + window width. A window already open makes it a
candidate at once, one already closed is missed at once, and when any condition fails nothing is armed (R71,
R76, R77, R78, R79, R192). -/
def Obligations.ListeningUplinkArms : Prop :=
  ∀ (n : FirstCopy) (s : State),
    (n.listen = false ∨ lookup s.stab n.station = none ∨
        (∃ k e, lookup s.stab n.station = some (k, e) ∧ e.settings.replyEnabled = false) ∨
        (∀ j d, slotState s j = .held d → d.station ≠ n.station) ∨ ¬ NoneActive s n.station →
      armStep n s = s) ∧
    (∀ i k e d, n.listen = true → lookup s.stab n.station = some (k, e) → e.settings.replyEnabled = true →
      NoneActive s n.station → slotState s i = .held d → d.station = n.station →
      (∀ j f, slotState s j = .held f → f.station = n.station → j ≠ i → d.order < f.order) →
      let o : PartTime :=
        n.endTime + BitVec.ofNat 32 (n.remaining * e.settings.copySpacingMs + e.settings.replyDelayMs)
      let c : PartTime := o + BitVec.ofNat 32 e.settings.windowWidthMs
      let armed : State := { s with
        dls.places := s.dls.places.set i { generation := s.dls.places[i].generation, state := .armed d o c } }
      (reached s.now o = false → reached s.now c = false → armStep n s = armed) ∧
      (reached s.now o = true → reached s.now c = false → armStep n s = arbiter (joinCandidates i armed)) ∧
      (reached s.now c = true → armStep n s = raise .downlinkMissed
        { withSlot s i (.held d) with dls.counters.missedWindows := bump s.dls.counters.missedWindows }))

/-- Window open and arbiter. WINDOW_OPEN reached by an ARMED slot puts it into the candidate set and lets the
arbiter decide. An IDLE transmitter is granted to the candidate with the earliest window open (oldest by age,
lowest index among equals) among those whose window close is not reached, or is reached at this very part time
and has not been taken: the slot goes to SENDING with one attempt used and one more transmission made, the
counters advance, the snapshot is taken and both lines are asserted. A busy transmitter, or no such candidate,
means no grant (R78, R80, R95, R99, R101, R102, R103, R193). That a close at this part time does not bar the
grant whatever made the transmitter IDLE is the model's reading of R103 (log entry 21), and that WINDOW_OPEN
before its time changes nothing but the end of the event is the model's choice (log entry 6). -/
def Obligations.ArbiterGrantsTheEarliest : Prop :=
  (∀ (i : Fin 16) (s : State), Running s →
    (∀ d o c, slotState s i = .armed d o c → reached s.now o = true →
      exec (.windowOpen i) s = .next (settle (arbiter { s with
        ftx.candidates := s.ftx.candidates.filter (fun j => decide (j < i)) ++
          i :: s.ftx.candidates.filter (fun j => decide (i < j)) }))) ∧
    ((∀ d o c, slotState s i = .armed d o c → reached s.now o = false) →
      exec (.windowOpen i) s = .next (settle s))) ∧
  (∀ s : State,
    (s.ftx.state ≠ .idle → arbiter s = s) ∧
    ((∀ j ∈ s.ftx.candidates, ∀ d o c, slotState s j = .armed d o c → reached s.now c = true ∧ c ≠ s.now) →
      arbiter s = s) ∧
    (∀ i d o c, s.ftx.state = .idle → s.ftx.candidates.Pairwise (fun j k => j < k) →
      i ∈ s.ftx.candidates → slotState s i = .armed d o c → (reached s.now c = false ∨ c = s.now) →
      (∀ j ∈ s.ftx.candidates, ∀ d' o' c', slotState s j = .armed d' o' c' →
        (reached s.now c' = false ∨ c' = s.now) →
        (s.now - o').toNat < (s.now - o).toNat ∨ ((s.now - o').toNat = (s.now - o).toNat ∧ i ≤ j)) →
      arbiter s =
        { withSlot s i (.sending
            { d with attemptsLeft := d.attemptsLeft - 1, transmissions := d.transmissions + 1 }) with
          dls.counters.transmissions := bump s.dls.counters.transmissions
          ftx.state := .sending
            { params := s.ftx.params, checkPoly := s.profile.checkPoly, checkInit := s.profile.checkInit
              station := d.station, sequence := d.sequence, payload := d.payload } i 0
          ftx.keyLine := true
          ftx.enLine := true
          ftx.counters.started := bump s.ftx.counters.started }))

/-- WINDOW_CLOSE reached by an ARMED slot: the window is missed. The slot returns to HELD with its downlink as
it was and leaves the candidates, missed windows advances and DOWNLINK_MISSED is raised. For a slot that is not
ARMED nothing changes but the end of the event (R79); that the same holds of a command sent before the close is
the model's choice (log entry 6). -/
def Obligations.WindowCloseMisses : Prop :=
  ∀ (i : Fin 16) (s : State), Running s →
    (∀ d o c, slotState s i = .armed d o c → reached s.now c = true →
      exec (.windowClose i) s = .next (settle (raise .downlinkMissed
        { withSlot s i (.held d) with dls.counters.missedWindows := bump s.dls.counters.missedWindows }))) ∧
    ((∀ d o c, slotState s i = .armed d o c → reached s.now c = false) →
      exec (.windowClose i) s = .next (settle s))

/-- LIFETIME_DEADLINE reached: HELD and ARMED give EXPIRED with no transmission made and EXPIRED_SENT
otherwise, the slot leaving the candidates; AWAIT_CONFIRM gives EXPIRED_SENT; SENDING and REPORTING are left as
they are (R83). That a command sent before the deadline is reached changes nothing but the end of the event is
the model's choice (log entry 6). -/
def Obligations.LifetimeEndsADownlink : Prop :=
  ∀ (i : Fin 16) (s : State) (d : Downlink), Running s →
    let ends (r : DownlinkResult) : State :=
      { withSlot s i (.reporting d r s.now) with
        dls.counters.expired := bump s.dls.counters.expired
        dst.waiting := s.dst.waiting ++ [outcomeNow s i d r] }
    (slotState s i = .held d ∨ (∃ o c, slotState s i = .armed d o c) → reached s.now d.lifetimeDeadline = true →
      (d.transmissions = 0 → exec (.lifetimeDeadline i) s = .next (settle (ends .expired))) ∧
      (0 < d.transmissions → exec (.lifetimeDeadline i) s = .next (settle (ends .expiredSent)))) ∧
    (slotState s i = .awaitConfirm d → reached s.now d.lifetimeDeadline = true →
      exec (.lifetimeDeadline i) s = .next (settle (ends .expiredSent))) ∧
    (slotState s i = .sending d ∨ (∃ r time, slotState s i = .reporting d r time) ∨ slotState s i = .free ∨
        ((slotState s i).downlink = some d ∧ reached s.now d.lifetimeDeadline = false) →
      exec (.lifetimeDeadline i) s = .next (settle s))

/-- The ends of what the transmitter does, each followed by the arbiter's decision in the same event.
TRANSMISSION_END when every tick of the telegram has been sent: lines deasserted, IDLE, completed advances, and
the slot goes to AWAIT_CONFIRM, or reaches EXPIRED_SENT when its lifetime deadline is reached; before that the
transmission goes on as it is. TEST_END reached in TESTING, and STOPPING_END when every tick of the cell in
progress has been sent: lines deasserted and IDLE (R81, R87, R104, R105, R107, R110). That the commands change
nothing but the end of the event before their time and in other transmitter states is the model's choice (log
entries 4 and 6). -/
def Obligations.TransmitterEnds : Prop :=
  ∀ s : State, Running s →
    let quiet := { s with ftx.state := .idle, ftx.keyLine := false, ftx.enLine := false }
    let done := { quiet with ftx.counters.completed := bump s.ftx.counters.completed }
    (∀ snap i n, s.ftx.state = .sending snap i n → n < snap.levels.length →
      exec .transmissionEnd s = .next (settle s)) ∧
    (∀ snap i n d, s.ftx.state = .sending snap i n → snap.levels.length ≤ n → slotState s i = .sending d →
      (reached s.now d.lifetimeDeadline = false → exec .transmissionEnd s = .next (settle (arbiter
        { done with dls.places :=
            s.dls.places.set i { generation := s.dls.places[i].generation, state := .awaitConfirm d } }))) ∧
      (reached s.now d.lifetimeDeadline = true → exec .transmissionEnd s = .next (settle (arbiter
        { withSlot done i (.reporting d .expiredSent s.now) with
          dls.counters.expired := bump s.dls.counters.expired
          dst.waiting := s.dst.waiting ++ [outcomeNow s i d .expiredSent] })))) ∧
    ((∀ snap i n, s.ftx.state ≠ .sending snap i n) → exec .transmissionEnd s = .next (settle s)) ∧
    (∀ d, s.ftx.state = .testing d → reached s.now d = true →
      exec .testEnd s = .next (settle (arbiter quiet))) ∧
    ((∀ d, s.ftx.state = .testing d → reached s.now d = false) → exec .testEnd s = .next (settle s)) ∧
    (s.ftx.state = .stopping [] → exec .stoppingEnd s = .next (settle (arbiter quiet))) ∧
    (s.ftx.state ≠ .stopping [] → exec .stoppingEnd s = .next (settle s))

/-- A downlink on FTX_KEY: preamble, sync word, length, control 0x10, station ID, sequence, payload and check,
most significant bits first, each bit keyed as its code and unit say, in (preamble + 16 + 8 × (p + 8)) cells of
2h or 3h ticks. From the grant on, after `k` transmit ticks FTX_KEY stands at the level of tick `k` and FTX_EN
stays as it was. That a tick is a step with an empty queue is the model's choice (log entry 4) (R96, R97, R98,
R99, R104, R200). -/
def Obligations.DownlinkIsKeyedBitByBit : Prop :=
  ∀ snap : TxSnapshot,
    let h := snap.params.halfBitTicks
    let bytes := [byteOf (5 + snap.payload.length), 0x10] ++ be24 snap.station ++ [snap.sequence] ++ snap.payload
    let bits := List.replicate snap.params.preambleBits false ++ wordBits snap.params.sync ++
      bytes.flatMap byteBits ++ wordBits (checkOf snap.checkPoly snap.checkInit bytes)
    let levels := bits.flatMap (fun b => match snap.params.code, b with
      | .manchester, false => List.replicate h true ++ List.replicate h false
      | .manchester, true => List.replicate h false ++ List.replicate h true
      | .pulseWidth, false => List.replicate h true ++ List.replicate (2 * h) false
      | .pulseWidth, true => List.replicate (2 * h) true ++ List.replicate h false)
    snap.levels = levels ∧
    bits.length = snap.params.preambleBits + 16 + 8 * (snap.payload.length + 8) ∧
    levels.length = bits.length * (match snap.params.code with
      | .manchester => 2 * h
      | .pulseWidth => 3 * h) ∧
    ∀ (s : State) (i : Fin 16) (k : Nat), s.ftx.state = .sending snap i 0 → s.ftx.keyLine = true →
      1 ≤ snap.params.preambleBits → 1 ≤ h → k < levels.length →
      (transmitTick^[k] s).ftx.state = .sending snap i k ∧
      some (transmitTick^[k] s).ftx.keyLine = levels[k]? ∧
      (transmitTick^[k] s).ftx.enLine = s.ftx.enLine

/-! ## Delivery stream -/

/-- A valid ACK that arrives on a clean assembler in an OPEN session, `a` being (N − o) mod 256, at most the
length of the window. In RUNNING an ACK of no item changes nothing in the stream, and one of `a` items removes
the `a` oldest, counts them, frees the slots of their OUTCOME items, zeroes the timeout count, and restarts the
timer or stops it with the window empty. In STALLED the items are removed in the same way and the stream
returns to RUNNING with what remains marked for resend and the timer stopped (R89, R122, R123, R124, R125,
R149). -/
def Obligations.ValidAckRemovesAndFrees : Prop :=
  ∀ (n : Byte) (s : State), Running s →
    (s.trk.assembler = .hunt ∨ s.trk.assembler = .collecting [] false) → s.trk.session ≠ .closed →
    let o : Byte := match s.dst.window with
      | [] => s.dst.nextSequence
      | w :: _ => w.sequence
    let a := (n - o).toNat
    let rest := s.dst.window.drop a
    let acked := (s.dst.window.take a).map SentItem.item
    let c := counted s
    let u := { c with
      dls.places := freed s.dls.places (slotsOf acked)
      dst.window := rest
      dst.counters.acknowledged := bumpBy a s.dst.counters.acknowledged }
    a ≤ s.dst.window.length →
    (s.dst.state = .running → a = 0 → exec (.ack n) s = .next (settle c)) ∧
    (s.dst.state = .running → 0 < a → exec (.ack n) s = .next (settle { u with
      dst.timeoutCount := 0
      dst.timer := if rest.isEmpty then none else some (after s.now s.dst.ackTimeoutMs) })) ∧
    (s.dst.state = .stalled → exec (.ack n) s = .next (settle { u with
      dst.state := .running
      dst.window := rest.map (fun w => { w with resendPending := true })
      dst.timeoutCount := 0
      dst.timer := none }))

/-- An invalid ACK (naming more items than the window holds), and any ACK that arrives while the session is
CLOSED, is ignored by the stream in every state: bad acks advances, and the window, the waiting queue, the timer,
the timeout count and the stream state are left as they are. As a frame that arrives at a resting part with a
clean assembler it is a valid frame, counted as such, and it does nothing else (R126). -/
def Obligations.InvalidAckIsIgnored : Prop :=
  ∀ (n : Byte) (s : State),
    let o : Byte := match s.dst.window with
      | [] => s.dst.nextSequence
      | w :: _ => w.sequence
    (s.trk.session = .closed ∨ s.dst.window.length < (n - o).toNat) →
    takeAck n s = { s with dst.counters.badAcks := bump s.dst.counters.badAcks } ∧
    (Resting s → (s.trk.assembler = .hunt ∨ s.trk.assembler = .collecting [] false) →
      exec (.ack n) s = .next { counted s with dst.counters.badAcks := bump s.dst.counters.badAcks })

/-- RETRANSMIT_TIMER_EXPIRY of a running timer whose deadline is reached: the timer stops and the timeout count
advances; below STALL_LIMIT every item of the window is marked for resend and the stream stays RUNNING; at or
above it the stream goes to STALLED, no item is marked, stalls advances and LINK_STALL is raised. With a stopped
timer nothing changes but the end of the event (R122, R127, R192); that the same holds of a command sent before
the deadline is reached is the model's choice (log entry 6). -/
def Obligations.RetransmitTimerExpires : Prop :=
  ∀ s : State, Running s →
    (∀ d, s.dst.timer = some d → reached s.now d = true →
      (s.dst.timeoutCount + 1 < s.dst.stallLimit → exec .retransmitTimerExpiry s = .next (settle { s with
        dst.timer := none
        dst.timeoutCount := s.dst.timeoutCount + 1
        dst.window := s.dst.window.map (fun w => { w with resendPending := true }) })) ∧
      (s.dst.stallLimit ≤ s.dst.timeoutCount + 1 → exec .retransmitTimerExpiry s =
        .next (settle (raise .linkStall { s with
          dst.timer := none
          dst.timeoutCount := s.dst.timeoutCount + 1
          dst.state := .stalled
          dst.counters.stalls := bump s.dst.counters.stalls })))) ∧
    ((∀ d, s.dst.timer = some d → reached s.now d = false) →
      exec .retransmitTimerExpiry s = .next (settle s))

/-- The item of a stream frame: the oldest item of the window with resend pending, sent again under its own
delivery sequence and its mark cleared; otherwise the head of the waiting queue, which joins the tail of the
window under the next delivery sequence. The counter advances, and a stopped timer starts with the part time
plus ACK_TIMEOUT_MS while a running one is left (R118, R120, R122). -/
def Obligations.StreamChoosesItsItem : Prop :=
  ∀ s : State,
    let timer := match s.dst.timer with
      | some d => some d
      | none => some (s.now + BitVec.ofNat 32 s.dst.ackTimeoutMs)
    (∀ before w others, s.dst.window = before ++ w :: others → (∀ x ∈ before, x.resendPending = false) →
      w.resendPending = true →
      streamSend s = some ((w.sequence, w.item), { s with
        dst.window := before ++ { w with resendPending := false } :: others
        dst.counters.resends := bump s.dst.counters.resends
        dst.timer := timer })) ∧
    (∀ it rest, s.dst.waiting = it :: rest → (∀ x ∈ s.dst.window, x.resendPending = false) →
      streamSend s = some ((s.dst.nextSequence, it), { s with
        dst.waiting := rest
        dst.window := s.dst.window ++ [{ item := it, sequence := s.dst.nextSequence, resendPending := false }]
        dst.nextSequence := s.dst.nextSequence + 1
        dst.counters.itemsSent := bump s.dst.counters.itemsSent
        dst.timer := timer }))

/-! ## Trunk link -/

/-- FRAME_BOUNDARY of a frame that concludes nothing: the line rests and the event is closed. When no request can
be taken in before the sender decides, that is the sender's five cases in their order: a stream frame goes first
when one is eligible and the wait count is 3, then the oldest response, then the notice of the lowest cause number
with its values at that moment, then a stream frame, then nothing; the wait count advances only over a response or
notice taken while a stream frame was eligible. With no request held that is all; with a full response queue and an
engine that is READY, the response taken makes the intake of the oldest held request possible in the same event
(R137, R151, R161, R162). That intakes that are possible at once come before the sender's decision is the model's
choice (log entry 7). -/
def Obligations.SenderChoosesInOrder : Prop :=
  ∀ (s : State) (f : LineFrame), Running s → s.trk.line = some f → f.concludes = false →
    let leads (t : State) : Prop := exec .frameBoundary s = .next (settle t) ∧
      (s.trk.held = [] → exec .frameBoundary s = .next t)
    let eligible := s.trk.session ≠ .closed ∧ s.dst.state = .running ∧
      ((∃ w ∈ s.dst.window, w.resendPending = true) ∨ (s.dst.waiting ≠ [] ∧ s.dst.window.length < 8))
    let wait := fun n : Nat => if streamEligible s then n + 1 else 0
    (streamEligible s = true ↔ eligible) ∧
    exec .frameBoundary s = .next (settle { s with trk.line := none }) ∧
    (NoIntake s → eligible → 3 ≤ s.trk.streamWait ∨ (s.trk.responses = [] ∧ ∀ c, inNotices s c = false) →
      ∃ q it u, streamSend s = some ((q, it), u) ∧
        leads { u with
          trk.line := some { content := .delivery q it, aborted := false }
          trk.streamWait := 0
          trk.counters.streamFramesSent := bump s.trk.counters.streamFramesSent }) ∧
    (∀ q rest, NoIntake s → s.trk.responses = q :: rest → ¬ (eligible ∧ 3 ≤ s.trk.streamWait) →
      leads { s with
        trk.responses := rest
        trk.line := some { content := .response q, aborted := false }
        trk.streamWait := wait s.trk.streamWait
        trk.counters.responsesSent := bump s.trk.counters.responsesSent }) ∧
    (∀ c o level, NoIntake s → s.trk.responses = [] → ¬ (eligible ∧ 3 ≤ s.trk.streamWait) →
      inNotices s c = true →
      (∀ c', inNotices s c' = true → c.number ≤ c'.number) →
      causeState s c = { occurrence := some o, level := level } →
      leads { s with
        trk.notices := s.trk.notices.set c.index false
        trk.line := some { content := .notice c o.count level o.first, aborted := false }
        trk.streamWait := wait s.trk.streamWait
        trk.counters.noticesSent := bump s.trk.counters.noticesSent }) ∧
    (NoIntake s → s.trk.responses = [] → (∀ c, inNotices s c = false) → ¬ eligible →
      leads { s with trk.line := none }) ∧
    (∀ q rest r held, s.trk.responses = q :: rest → rest.length = 3 → s.trk.held = r :: held → s.mre = .ready →
      ¬ (eligible ∧ 3 ≤ s.trk.streamWait) →
      exec .frameBoundary s = .next (settle (takeIn r { s with
        trk.held := held
        trk.responses := rest
        trk.line := some { content := .response q, aborted := false }
        trk.streamWait := wait s.trk.streamWait
        trk.counters.responsesSent := bump s.trk.counters.responsesSent })))

/-- The session close: CLOSED with no idle deadline and wait count 0, the notice set emptied, the window back
at the head of the waiting queue in sending order with the timer stopped, RUNNING and timeout count 0, and a
DELIVERY or NOTICE frame on the line aborted and counted; responses, held requests and the cache are kept. At
the boundary that ends the response of a CLOSE-SESSION or WARM-RESTART carried out, the session closes and the
engine is READY again, in the second case after the warm restart, before the sender chooses; with the session
CLOSED already, after an idle timeout, that boundary only releases the engine in the same way (R129, R157, R158,
R160, R166, R172). -/
def Obligations.SessionCloses : Prop :=
  ∀ s : State,
    let stream : DeliveryStream := { s.dst with
      waiting := s.dst.window.map SentItem.item ++ s.dst.waiting, window := [], timer := none
      state := .running, timeoutCount := 0 }
    let trunk : TrunkLink := { s.trk with
      session := .closed, streamWait := 0, notices := Vector.replicate 8 false }
    (s.trk.session = .closed → closeSession s = s) ∧
    (s.trk.session ≠ .closed → s.trk.line = none ∨
        (∃ f, s.trk.line = some f ∧ (f.aborted = true ∨ ∃ q, f.content = .response q)) →
      closeSession s = { s with dst := stream, trk := trunk }) ∧
    (∀ f, s.trk.session ≠ .closed → s.trk.line = some { content := f, aborted := false } →
      ((∃ q it, f = .delivery q it) ∨ ∃ c k l t, f = .notice c k l t) →
      closeSession s = { s with dst := stream, trk := { trunk with
        line := some { content := f, aborted := true }
        counters.framesAborted := bump s.trk.counters.framesAborted } }) ∧
    (∀ q ab, Running s → s.trk.line = some { content := .response q, aborted := ab } →
      q.concludes = true → s.trk.session ≠ .closed →
      let ended := { s with dst := stream, trk := { trunk with line := none } }
      (s.mre = .closing → exec .frameBoundary s = .next (settle { ended with mre := .ready })) ∧
      (s.mre = .restarting → exec .frameBoundary s = .next (settle { warmRestart ended with mre := .ready }))) ∧
    (∀ q ab, Running s → s.trk.line = some { content := .response q, aborted := ab } →
      q.concludes = true → s.trk.session = .closed →
      let ended := { s with trk.line := none }
      (s.mre = .closing → exec .frameBoundary s = .next (settle { ended with mre := .ready })) ∧
      (s.mre = .restarting → exec .frameBoundary s = .next (settle { warmRestart ended with mre := .ready })))

/-- The warm restart, block by block: what each block keeps and what returns to a starting value, over any
state whose notice set is empty in a CLOSED session; RESTARTED is left pending with count 1 and the part time of
the restart, and ATTN follows from its level. A transmission goes to STOPPING with the cell in progress, and
straight to IDLE when its last tick has been sent (R23, R43, R67, R93, R109, R110, R111, R133, R145, R165, R173,
R191). -/
def Obligations.WarmRestartOfEveryBlock : Prop :=
  ∀ s : State, s.trk.session = .closed →
    let t := warmRestart s
    t.inReset = s.inReset ∧ t.tbs = s.tbs ∧ t.profile = s.profile ∧ t.mre = s.mre ∧ t.pending = s.pending ∧
    (∀ ch, receiver t ch =
      { state := if s.profile.enabled ch then .hunt none else .disabled, counters := zeroRxCounters }) ∧
    t.stab.policy = s.stab.policy ∧ t.stab.unknownWindowMs = s.stab.unknownWindowMs ∧
    (∀ i : Fin 64, t.stab.places[i] = (s.stab.places[i]).map (fun e =>
      { e with lastSequence := none, lastHeard := none, accepted := 0, duplicates := 0, stale := 0 })) ∧
    t.rpf.records = [] ∧ t.rpf.counters.toList = List.replicate 11 0 ∧
    (∀ i : Fin 16, t.dls.places[i] = { generation := s.dls.places[i].generation, state := .free }) ∧
    t.dls.counters.toList = List.replicate 10 0 ∧
    t.ftx.params = s.ftx.params ∧ t.ftx.candidates = [] ∧
    (s.ftx.state = .idle ∨ (∃ rest, s.ftx.state = .stopping rest) →
      t.ftx.state = s.ftx.state ∧ t.ftx.keyLine = s.ftx.keyLine ∧ t.ftx.enLine = s.ftx.enLine ∧
      t.ftx.counters.toList = [0, 0, 0, 0]) ∧
    (∀ d, s.ftx.state = .testing d →
      t.ftx.state = .idle ∧ t.ftx.keyLine = false ∧ t.ftx.enLine = false ∧
      t.ftx.counters.toList = [0, 0, 0, 0]) ∧
    (∀ snap i n, s.ftx.state = .sending snap i n →
      t.ftx.counters.toList = [0, 0, 1, 0] ∧
      (n < snap.levels.length → 1 ≤ snap.params.halfBitTicks →
        t.ftx.state = .stopping ((snap.levels.drop n).take
          (snap.params.cellTicks - n % snap.params.cellTicks)) ∧
        t.ftx.keyLine = s.ftx.keyLine ∧ t.ftx.enLine = s.ftx.enLine) ∧
      (snap.levels.length ≤ n → t.ftx.state = .idle ∧ t.ftx.keyLine = false ∧ t.ftx.enLine = false)) ∧
    t.dst = { s.dst with waiting := [], window := [], nextSequence := 0, timer := none, state := .running,
                         timeoutCount := 0, counters := zeroStreamCounters } ∧
    t.trk = { s.trk with responses := [], cache := [], streamWait := 0
                         notices := Vector.replicate 8 false, counters := zeroTrunkCounters } ∧
    (∀ c, causeState t c = { occurrence := if c = .restarted then some { count := 1, first := s.now } else none
                             level := (causeState s c).level }) ∧
    t.alm.attentionLevel = s.alm.attentionLevel ∧ t.alm.renotifyS = s.alm.renotifyS ∧
    t.alm.errorBurstLimit = s.alm.errorBurstLimit ∧ t.alm.burstCount = 0 ∧
    t.alm.renotifyDeadline = s.now + BitVec.ofNat 32 (s.alm.renotifyS * 1000) ∧
    t.alm.attn = decide (s.alm.attentionLevel ≤ (causeState s .restarted).level)

/-- IDLE_DEADLINE reached in an OPEN session: the session closes, the response queue is emptied and idle closes
advances; a CLOSE-SESSION or WARM-RESTART whose response was in the queue is finished, which returns the engine
to READY, in the second case after the warm restart (R155, R159, R160). That the command changes nothing but the
end of the event with the deadline absent or not reached, or in CLOSED, is the model's choice (log entry 6). -/
def Obligations.IdleDeadlineCloses : Prop :=
  ∀ s : State, Running s →
    let idled := { closeSession s with
      trk.responses := [], trk.counters.idleCloses := bump s.trk.counters.idleCloses }
    (∀ d, s.trk.session = .opened (some d) → reached s.now d = true →
      ((∀ q ∈ s.trk.responses, q.concludes = false) → exec .idleDeadline s = .next (settle idled)) ∧
      ((∃ q ∈ s.trk.responses, q.concludes = true) →
        (s.mre = .closing → exec .idleDeadline s = .next (settle { idled with mre := .ready })) ∧
        (s.mre = .restarting →
          exec .idleDeadline s = .next (settle { warmRestart idled with mre := .ready })))) ∧
    (s.trk.session = .closed ∨ s.trk.session = .opened none ∨
        (∃ d, s.trk.session = .opened (some d) ∧ reached s.now d = false) →
      exec .idleDeadline s = .next (settle s))

/-- What is discarded on reception, and how TRXD is sampled. A line error, and each fault of a content, advances its
counter, leaves the assembler in HUNT or collecting a new content as its row says, and raises TRUNK_RX_ERROR. A
frame of another kind, or an ACK with a body, only advances bad kinds and raises nothing. On the line a falling
edge begins a start bit; the ten bits of a byte (start at space, data least significant first, stop at mark),
each as many periods long as the selected rate gives, are the reception of that byte; with the stop bit at space
they are one line error however long the space lasts, and the receiver then waits for the rising edge (R146,
R148, R149, R195). That the
edges of TRXD, and the word that it has been quiet, come as operands of DISCARDED_CONTENT is the model's choice (log
entry 22), and so is that a fault operand brings a fault already found and leaves the assembler as its row says
whatever it was collecting (log entry 11). -/
def Obligations.DiscardedOnReception : Prop :=
  ∀ s : State, Running s →
    let empty := Assembler.collecting [] false
    exec .lineError s = .next (settle (raise .trunkRxError
      { s with trk.assembler := .hunt, trk.counters.lineErrors := bump s.trk.counters.lineErrors })) ∧
    exec (.discardedContent (.fault .badEscape)) s = .next (settle (raise .trunkRxError
      { s with trk.assembler := .hunt, trk.counters.badEscapes := bump s.trk.counters.badEscapes })) ∧
    exec (.discardedContent (.fault .badEscapeDelimiter)) s = .next (settle (raise .trunkRxError
      { s with trk.assembler := empty, trk.counters.badEscapes := bump s.trk.counters.badEscapes })) ∧
    exec (.discardedContent (.fault .oversize)) s = .next (settle (raise .trunkRxError
      { s with trk.assembler := .hunt, trk.counters.oversize := bump s.trk.counters.oversize })) ∧
    exec (.discardedContent (.fault .runt)) s = .next (settle (raise .trunkRxError
      { s with trk.assembler := empty, trk.counters.runts := bump s.trk.counters.runts })) ∧
    exec (.discardedContent (.fault .badCheck)) s = .next (settle (raise .trunkRxError
      { s with trk.assembler := empty, trk.counters.badChecks := bump s.trk.counters.badChecks })) ∧
    (∀ kind tag body, kind ≠ 0x01 → kind ≠ 0x02 ∨ body ≠ [] → body.length ≤ 80 → Settled s →
      s.trk.assembler = .hunt ∨ s.trk.assembler = empty →
      exec (.badKind kind tag body) s = .next
        { s with trk.assembler := empty, trk.counters.badKinds := bump s.trk.counters.badKinds }) ∧
    (Settled s → ∀ time : Nat,
      (s.trk.sampler = .idle →
        exec (.discardedContent (.edge false time)) s = .next { s with trk.sampler := .receiving time false [] } ∧
        exec (.discardedContent (.edge true time)) s = .next s ∧
        exec (.discardedContent (.quiet time)) s = .next s) ∧
      (s.trk.sampler = .broken →
        exec (.discardedContent (.edge true time)) s = .next { s with trk.sampler := .idle } ∧
        exec (.discardedContent (.edge false time)) s = .next s ∧
        exec (.discardedContent (.quiet time)) s = .next s)) ∧
    (Settled s → s.trk.sampler = .idle → ∀ (b : Byte) (start time : Nat),
      let period := match s.tbs.rsel1, s.tbs.rsel0 with
        | false, false => 208
        | false, true => 139
        | true, false => 104
        | true, true => 35
      let data := [b.getLsbD 0, b.getLsbD 1, b.getLsbD 2, b.getLsbD 3, b.getLsbD 4, b.getLsbD 5, b.getLsbD 6,
        b.getLsbD 7]
      let cmds (stop : Bool) := trunkEdges period true start ([false] ++ data ++ [stop]) ++
        [Instr.discardedContent (.quiet time)]
      start + 10 * period ≤ time →
      (∃ u, exec (.discardedContent (.bytes [b])) s = .next u ∧ carriesOut (cmds true) s u) ∧
      (∃ u, exec .lineError s = .next u ∧
        carriesOut (cmds false) s { u with trk.sampler := .broken }))

/-- The bytes on TRXD at a resting part. With a clean assembler, the bytes of a frame (delimiter, escaped content,
closing delimiter) are the arrival of that frame: an ACK, a REQUEST, a frame of another kind, or, with more than
80 body bytes, an oversize content that leaves the assembler collecting a new one. A delimiter and escaped
content of at most 84 bytes are collected with escaping undone. The bytes act one after another, and each acts
as its row says: in HUNT only a delimiter counts; a delimiter ends the content collected, which is nothing, a
runt, a bad check or a frame; the 85th byte is oversize; an escape that is followed by anything but 0x85 or 0x86
is bad, and a delimiter there begins a new content. A frame that arrives on any assembler is that delimiter,
followed by the frame on the new, empty content. On TTXD each frame is a delimiter, its escaped content with the
check at the end and a closing delimiter, cut short by an escape and a delimiter when it is aborted; each byte is a
start bit at space, its data bits with the least significant first, and a stop bit at mark (R146, R147, R148,
R149, R157, R161, R202; log entry 11). -/
def Obligations.FrameBytesAreTheFrame : Prop :=
  (∀ (kind tag : Byte) (body : List Byte) (s : State), Resting s →
    (s.trk.assembler = .hunt ∨ s.trk.assembler = .collecting [] false) →
    let bytes := onLine (withFrameCheck (kind :: tag :: body))
    let empty := Assembler.collecting [] false
    (body.length ≤ 80 →
      (kind = 0x01 → exec (.discardedContent (.bytes bytes)) s = exec (.requestFrame tag body) s) ∧
      (kind = 0x02 → body = [] → exec (.discardedContent (.bytes bytes)) s = exec (.ack tag) s) ∧
      (kind ≠ 0x01 → kind ≠ 0x02 ∨ body ≠ [] →
        exec (.discardedContent (.bytes bytes)) s = exec (.badKind kind tag body) s)) ∧
    (80 < body.length →
      (∃ u, exec (.discardedContent (.fault .oversize)) s = .next u ∧
        exec (.discardedContent (.bytes bytes)) s = .next { u with trk.assembler := empty }) ∧
      exec (.discardedContent (.bytes bytes)) s = exec (.badKind kind tag body) s ∧
      (kind = 0x01 → exec (.discardedContent (.bytes bytes)) s = exec (.requestFrame tag body) s)) ∧
    (∀ content : List Byte, content.length ≤ 84 →
      exec (.discardedContent (.bytes (0xA5 :: content.flatMap escapeByte))) s =
        .next { s with trk.assembler := .collecting content false })) ∧
  (∀ (b : Byte) (s : State), Resting s →
    let one := exec (.discardedContent (.bytes [b])) s
    let at' (a : Assembler) : State := { s with trk.assembler := a }
    let empty := Assembler.collecting [] false
    let fault (f : ContentFault) := exec (.discardedContent (.fault f)) s
    exec (.discardedContent (.bytes [])) s = .next s ∧
    (∃ u, one = .next u ∧ ∀ bs : List Byte,
      exec (.discardedContent (.bytes (b :: bs))) s = exec (.discardedContent (.bytes bs)) u) ∧
    (s.trk.assembler = .hunt → one = .next (if b = 0xA5 then at' empty else s)) ∧
    (∀ c, s.trk.assembler = .collecting c false →
      (b = 0xA5 → c = [] → one = .next s) ∧
      (b = 0xA5 → 1 ≤ c.length → c.length ≤ 3 → one = fault .runt) ∧
      (∀ (kind tag : Byte) (body : List Byte) (check : Word16), b = 0xA5 →
        c = kind :: tag :: (body ++ be16 check.toNat) →
        (check ≠ frameCheck (kind :: tag :: body) → one = fault .badCheck) ∧
        (check = frameCheck (kind :: tag :: body) → body.length ≤ 80 →
          (kind = 0x01 → one = exec (.requestFrame tag body) (at' empty)) ∧
          (kind = 0x02 → body = [] → one = exec (.ack tag) (at' empty)) ∧
          (kind ≠ 0x01 → kind ≠ 0x02 ∨ body ≠ [] → one = exec (.badKind kind tag body) (at' empty)))) ∧
      (b = 0xA6 → one = .next (at' (.collecting c true))) ∧
      (b ≠ 0xA5 → b ≠ 0xA6 → c.length < 84 → one = .next (at' (.collecting (c ++ [b]) false))) ∧
      (b ≠ 0xA5 → b ≠ 0xA6 → 84 ≤ c.length → one = fault .oversize)) ∧
    (∀ c, s.trk.assembler = .collecting c true →
      (b = 0x85 → c.length < 84 → one = .next (at' (.collecting (c ++ [0xA5]) false))) ∧
      (b = 0x86 → c.length < 84 → one = .next (at' (.collecting (c ++ [0xA6]) false))) ∧
      (b = 0x85 ∨ b = 0x86 → 84 ≤ c.length → one = fault .oversize) ∧
      (b = 0xA5 → one = fault .badEscapeDelimiter) ∧
      (b ≠ 0x85 → b ≠ 0x86 → b ≠ 0xA5 → one = fault .badEscape))) ∧
  (∀ s : State, Resting s →
    ∃ u, exec (.discardedContent (.bytes [0xA5])) s = .next u ∧ u.trk.assembler = .collecting [] false ∧
      ∀ (kind tag : Byte) (body : List Byte),
        exec (.requestFrame tag body) s = exec (.requestFrame tag body) u ∧
        exec (.ack tag) s = exec (.ack tag) u ∧
        exec (.badKind kind tag body) s = exec (.badKind kind tag body) u) ∧
  (∀ f : FrameContent,
    let content := match f with
      | .response q => [0x81, q.response.tag, q.response.code, q.response.status] ++ q.response.results
      | .notice c count level first => [0x83, 0x00, byteOf c.number, byteOf count, byteOf level] ++ be32 first
      | .delivery sequence item => [0x82, sequence] ++ item.body
    let escaped := (content ++ be16 (frameCheck content).toNat).flatMap (fun b =>
      if b = 0xA5 then [0xA6, 0x85] else if b = 0xA6 then [0xA6, 0x86] else [b])
    f.lineBytes = [0xA5] ++ escaped ++ [0xA5] ∧
    (∀ sent, f.abortedBytes sent = f.lineBytes.take sent ++ [0xA6, 0xA5]) ∧
    f.lineLevels = f.lineBytes.flatMap (fun b => [false, b.getLsbD 0, b.getLsbD 1, b.getLsbD 2, b.getLsbD 3,
      b.getLsbD 4, b.getLsbD 5, b.getLsbD 6, b.getLsbD 7, true]))

/-- A REQUEST frame that arrives on a clean assembler is a valid frame; it joins the newest end of the
held-request buffer, or, with two held, is discarded, counted as an overrun and raises TRUNK_RX_ERROR. Taken at
once, it is judged, its response recorded under a nonzero tag, and queued (R149, R150, R151, R153). Each
request row of the table is the REQUEST_FRAME with its body; that is the model's choice (log entry 3). -/
def Obligations.RequestFramesAreHeldAndTaken : Prop :=
  (∀ (tag : Byte) (body : List Byte) (s : State), Running s →
    (s.trk.assembler = .hunt ∨ s.trk.assembler = .collecting [] false) → body.length ≤ 80 →
    let c := counted s
    (s.trk.held.length < 2 → exec (.requestFrame tag body) s =
      .next (settle { c with trk.held := s.trk.held ++ [{ tag := tag, body := body }] })) ∧
    (2 ≤ s.trk.held.length → exec (.requestFrame tag body) s = .next (settle (raise .trunkRxError
      { c with trk.counters.overruns := bump s.trk.counters.overruns })))) ∧
  (∀ (tag code : Byte) (args : List Byte) (s : State), TakesAtOnce s tag code → args.length ≤ 79 →
    let r := judgeRequest code args (counted s)
    exec (.requestFrame tag (code :: args)) s = .next (answered
      { tag := tag, code := code, status := r.1.status.code, results := r.1.results }
      (decide ((code = 0x11 ∨ code = 0x13) ∧ r.1.status = .ok)) r.2)) ∧
  (∀ (tag x y : Byte) (bs : List Byte) (id : StationId) (w v : Word16) (re rd cs ww : Byte) (s : State),
    exec (.openSession tag x) s = exec (.requestFrame tag [0x10, x]) s ∧
    exec (.closeSession tag) s = exec (.requestFrame tag [0x11]) s ∧
    exec (.getStatus tag) s = exec (.requestFrame tag [0x12]) s ∧
    exec (.warmRestart tag) s = exec (.requestFrame tag [0x13]) s ∧
    exec (.setParameter tag x bs) s = exec (.requestFrame tag (0x20 :: x :: bs)) s ∧
    exec (.getParameter tag x) s = exec (.requestFrame tag [0x21, x]) s ∧
    exec (.putStation tag id x w v re rd cs ww) s = exec (.requestFrame tag
      ([0x30] ++ be24 id ++ [x] ++ be16 w.toNat ++ be16 v.toNat ++ [re, rd, cs, ww])) s ∧
    exec (.dropStation tag id) s = exec (.requestFrame tag (0x31 :: be24 id)) s ∧
    exec (.getStation tag id) s = exec (.requestFrame tag (0x32 :: be24 id)) s ∧
    exec (.listStations tag x) s = exec (.requestFrame tag [0x33, x]) s ∧
    exec (.queueDownlink tag id x y w bs) s = exec (.requestFrame tag
      ([0x40] ++ be24 id ++ [x, y] ++ be16 w.toNat ++ [byteOf bs.length] ++ bs)) s ∧
    exec (.cancelDownlink tag x y) s = exec (.requestFrame tag [0x41, x, y]) s ∧
    exec (.getDownlink tag x y) s = exec (.requestFrame tag [0x42, x, y]) s ∧
    exec (.getCauses tag) s = exec (.requestFrame tag [0x50]) s ∧
    exec (.clearCause tag x) s = exec (.requestFrame tag [0x51, x]) s ∧
    exec (.getCounters tag x) s = exec (.requestFrame tag [0x52, x]) s ∧
    exec (.clearCounters tag x) s = exec (.requestFrame tag [0x53, x]) s ∧
    exec (.carrierTest tag w) s = exec (.requestFrame tag (0x60 :: be16 w.toNat)) s ∧
    exec (.carrierStop tag) s = exec (.requestFrame tag [0x61]) s ∧
    exec (.duplicate tag x bs) s = exec (.requestFrame tag (x :: bs)) s ∧
    exec (.undefinedRequest tag bs) s = exec (.requestFrame tag bs) s)

/-- Requests that the request engine does not see. A repeated nonzero tag and code is answered from the cache
with the recorded response, counted, and not carried out or recorded again; a body without a code is answered
BAD_FORMAT with code 0 and not recorded; a code that the part does not define is answered BAD_REQUEST; in
CLOSED every defined request but OPEN-SESSION and GET-STATUS is answered NOT_OPEN. Where a request may be judged,
arguments of another length than its row gives are answered BAD_FORMAT, and so is a QUEUE-DOWNLINK whose payload
has another length than it states (R151, R152, R153, R167, R203, R204). -/
def Obligations.AnsweredAtIntake : Prop :=
  (∀ (tag code : Byte) (args : List Byte) (s : State) (k : CacheRecord),
    TakesAtOnce s 0 code → tag ≠ 0 → args.length ≤ 79 → findCached s.trk.cache tag code = some k →
    exec (.duplicate tag code args) s = .next (senderDecides
      { counted s with
        trk.counters.duplicates := bump s.trk.counters.duplicates
        trk.responses := s.trk.responses ++ [{ response := k.response, concludes := false }] })) ∧
  (∀ (tag : Byte) (s : State), TakesAtOnce s 0 0 →
    exec (.undefinedRequest tag []) s = .next (senderDecides
      { counted s with trk.responses := s.trk.responses ++
          [{ response := { tag := tag, code := 0x00, status := 0x01, results := [] }, concludes := false }] })) ∧
  (∀ (tag code : Byte) (args : List Byte) (s : State), TakesAtOnce s tag code → args.length ≤ 79 →
    (code ∉ [0x10, 0x11, 0x12, 0x13, 0x20, 0x21, 0x30, 0x31, 0x32, 0x33, 0x40, 0x41, 0x42, 0x50, 0x51, 0x52,
        0x53, 0x60, 0x61] →
      exec (.undefinedRequest tag (code :: args)) s = .next (refusedWith tag code .badRequest s)) ∧
    (code ∈ [0x11, 0x13, 0x20, 0x21, 0x30, 0x31, 0x32, 0x33, 0x40, 0x41, 0x42, 0x50, 0x51, 0x52, 0x53, 0x60,
        0x61] → s.trk.session = .closed →
      exec (.requestFrame tag (code :: args)) s = .next (refusedWith tag code .notOpen s)) ∧
    (s.trk.session ≠ .closed ∨ code = 0x10 ∨ code = 0x12 →
      (∀ n : Nat, (code, n) ∈ [((0x10 : Byte), 1), (0x11, 0), (0x12, 0), (0x13, 0), (0x21, 1), (0x30, 12), (0x31, 3),
          (0x32, 3), (0x33, 1), (0x41, 2), (0x42, 2), (0x50, 0), (0x51, 1), (0x52, 1), (0x53, 1), (0x60, 2),
          (0x61, 0)] → args.length ≠ n →
        exec (.requestFrame tag (code :: args)) s = .next (refusedWith tag code .badFormat s)) ∧
      (code = 0x20 → args = [] →
        exec (.requestFrame tag (code :: args)) s = .next (refusedWith tag code .badFormat s)) ∧
      (code = 0x40 → args.length < 8 →
        exec (.requestFrame tag (code :: args)) s = .next (refusedWith tag code .badFormat s)) ∧
      (∀ (before payload : List Byte) (n : Byte), code = 0x40 → before.length = 7 →
        args = before ++ n :: payload → payload.length ≠ n.toNat →
        exec (.requestFrame tag (code :: args)) s = .next (refusedWith tag code .badFormat s))))

/-! ## Requests -/

/-- OPEN-SESSION taken at once, in either session state: an OPEN session is closed first; then the session is
OPEN with wait count 0, next delivery sequence 0, RUNNING, timeout count 0, every pending cause of level 1 or
more in the notice set, the cache emptied and the idle deadline set; RESUME keeps the waiting queue and FRESH
drops its TELEGRAM items and frees the slots of its OUTCOME items. The results are the seven counts. A mode
that is neither is refused with BAD_VALUE. A CLOSED session is taken to have an empty window, as
Obligations.StreamStaysConsistent keeps it (R130, R153, R156, R169, R204, R206). -/
def Obligations.OpenSession : Prop :=
  ∀ (tag : Byte) (s : State), TakesAtOnce s tag 0x10 → (s.trk.session = .closed → s.dst.window = []) →
    let k := closeSession (counted s)
    let joins := fun c : Cause => pendingCause k c && decide (1 ≤ (causeState k c).level)
    let joined := (allCauses.filter (fun c => joins c && !inNotices k c)).length
    let telegrams := (k.dst.waiting.filter Item.isTelegram).length
    let outcomes := (k.dst.waiting.filter (fun i => !i.isTelegram)).length
    let opened (notices : Vector Bool 8) (t : State) : State := { t with
      dst.nextSequence := 0
      dst.state := .running
      dst.timeoutCount := 0
      trk.session := .opened
        (if s.trk.sessionIdleS = 0 then none else some (s.now + BitVec.ofNat 32 (s.trk.sessionIdleS * 1000)))
      trk.streamWait := 0
      trk.notices := notices
      trk.cache := []
      trk.counters.opens := bump s.trk.counters.opens }
    (∃ notices : Vector Bool 8, (∀ c : Cause, notices[c.index] = (inNotices k c || joins c)) ∧
      exec (.openSession tag 0x01) s = .next (carriedOut tag 0x10
        [0x01, yesNo s.trk.session.isOpen, byteOf telegrams, byteOf outcomes, 0, 0, byteOf joined]
        (opened notices k)) ∧
      exec (.openSession tag 0x02) s = .next (carriedOut tag 0x10
        [0x02, yesNo s.trk.session.isOpen, 0, 0, byteOf telegrams, byteOf outcomes, byteOf joined]
        (opened notices { k with
          dls.places := freed k.dls.places (slotsOf k.dst.waiting)
          dst.waiting := []
          dst.counters.droppedAtFresh := bumpBy telegrams k.dst.counters.droppedAtFresh }))) ∧
    (∀ m, m ≠ 0x01 → m ≠ 0x02 → exec (.openSession tag m) s = .next (refusedWith tag 0x10 .badValue s))

/-- CLOSE-SESSION and WARM-RESTART taken at once in OPEN are answered OK without results and put the engine
into CLOSING or RESTARTING, changing no block's state. GET-STATUS, in either session state, is answered OK with
its 24 bytes: part code, revision, session and stream state, table, list and slot counts, stream counts,
pending causes and part time (R166, R170, R171, R172, R204, R206). -/
def Obligations.CloseRestartAndStatus : Prop :=
  ∀ (tag : Byte) (s : State),
    let n (p : SlotState → Bool) : Byte := byteOf ((List.finRange 16).countP (fun i => p (slotState s i)))
    (TakesAtOnce s tag 0x11 → s.trk.session ≠ .closed → exec (.closeSession tag) s =
      .next (answered (replyWith tag 0x11 .ok []) true { counted s with mre := .closing })) ∧
    (TakesAtOnce s tag 0x13 → s.trk.session ≠ .closed → exec (.warmRestart tag) s =
      .next (answered (replyWith tag 0x13 .ok []) true { counted s with mre := .restarting })) ∧
    (TakesAtOnce s tag 0x12 → exec (.getStatus tag) s = .next (carriedOut tag 0x12
      ([0x47, 0x06, 0x01, if s.trk.session = .closed then 0x00 else 0x01,
        if s.dst.state = .running then 0x00 else 0x01,
        byteOf ((List.finRange 64).countP (fun i => (s.stab.places[i]).isSome)), byteOf s.rpf.records.length,
        n (fun st => st == .free),
        n (fun st => match st with | .held _ => true | _ => false),
        n (fun st => match st with | .armed _ _ _ => true | _ => false),
        n (fun st => match st with | .sending _ => true | _ => false),
        n (fun st => match st with | .awaitConfirm _ => true | _ => false),
        n (fun st => match st with | .reporting _ _ _ => true | _ => false),
        byteOf s.dst.waiting.length, byteOf s.dst.window.length,
        byteOf (s.dst.items.filter Item.isTelegram).length,
        byteOf (s.dst.items.filter (fun i => !i.isTelegram)).length,
        s.dst.nextSequence, byteOf s.dst.timeoutCount,
        byteOf ((allCauses.map (fun c => if pendingCause s c then 2 ^ (c.number - 1) else 0)).sum)] ++
        be32 s.now) (counted s)))

/-- SET-PARAMETER and GET-PARAMETER taken at once in OPEN. A value in range and in the parameter's width is set
and answered with the value before and the value now; afterwards the parameter reads as the value set and
every other parameter as before. GET-PARAMETER answers the present value. An undefined number is answered
BAD_REQUEST, a wrong width BAD_FORMAT, a value out of range BAD_VALUE. The thirty parameters have the numbers,
widths and ranges of the table, and setting one that does not act at once on more than its value changes that
one field and nothing else (R167, R175, R176, R207). -/
def Obligations.ParametersAreSetAndRead : Prop :=
  (∀ (tag : Byte) (p : Param) (v : Nat) (s : State), TakesAtOnce s tag 0x20 → s.trk.session ≠ .closed →
    p.inRange v = true →
    exec (.setParameter tag p.number (p.encode v)) s = .next (carriedOut tag 0x20
      ([p.number] ++ p.encode (getParam p s) ++ p.encode v) (setParam p v (counted s)))) ∧
  (∀ (p : Param) (v : Nat) (s : State), p.inRange v = true →
    getParam p (setParam p v s) = v ∧ ∀ q, q ≠ p → getParam q (setParam p v s) = getParam q s) ∧
  (∀ (tag : Byte) (p : Param) (s : State), TakesAtOnce s tag 0x21 → s.trk.session ≠ .closed →
    exec (.getParameter tag p.number) s = .next (carriedOut tag 0x21
      ([p.number] ++ p.encode (getParam p s)) (counted s))) ∧
  (∀ (tag n : Byte) (s : State), (∀ p : Param, p.number ≠ n) → s.trk.session ≠ .closed →
    (TakesAtOnce s tag 0x21 →
      exec (.getParameter tag n) s = .next (refusedWith tag 0x21 .badRequest s)) ∧
    (TakesAtOnce s tag 0x20 → ∀ value : List Byte, value.length ≤ 78 →
      exec (.setParameter tag n value) s = .next (refusedWith tag 0x20 .badRequest s))) ∧
  (∀ (tag : Byte) (p : Param) (value : List Byte) (s : State), TakesAtOnce s tag 0x20 →
    s.trk.session ≠ .closed → value.length ≤ 78 →
    (value.length ≠ p.width →
      exec (.setParameter tag p.number value) s = .next (refusedWith tag 0x20 .badFormat s)) ∧
    (value.length = p.width → p.inRange (numOf value) = false →
      exec (.setParameter tag p.number value) s = .next (refusedWith tag 0x20 .badValue s))) ∧
  (let table : List (Param × Byte × Nat × Nat × Nat) :=
    [(.unknownPolicy, 0x01, 1, 0, 2), (.unknownWindowMs, 0x02, 2, 100, 60000), (.rxCode, 0x10, 1, 0, 2),
      (.rxBitTimeUs, 0x11, 2, 100, 2000), (.rxPreambleMin, 0x12, 1, 8, 32), (.rxSync, 0x13, 2, 0, 65535),
      (.rxCheckPoly, 0x14, 2, 0, 65535), (.rxCheckInit, 0x15, 2, 0, 65535), (.rxMaxLength, 0x16, 1, 5, 38),
      (.rxEnableA, 0x17, 1, 0, 1), (.rxEnableB, 0x18, 1, 0, 1), (.txTickUs, 0x20, 2, 20, 1000),
      (.txCode, 0x21, 1, 0, 2), (.txHalfBitTicks, 0x22, 1, 1, 16), (.txPreambleBits, 0x23, 1, 8, 64),
      (.txSync, 0x24, 2, 0, 65535), (.ackTimeoutMs, 0x30, 2, 20, 5000), (.stallLimit, 0x31, 1, 1, 15),
      (.sessionIdleS, 0x38, 1, 0, 120), (.renotifyS, 0x40, 1, 1, 60), (.attentionLevel, 0x41, 1, 1, 3),
      (.errorBurstLimit, 0x42, 1, 1, 255), (.level .restarted, 0x51, 1, 0, 3), (.level .learnFull, 0x52, 1, 0, 3),
      (.level .rtlPressure, 0x53, 1, 0, 3), (.level .streamDrop, 0x54, 1, 0, 3), (.level .linkStall, 0x55, 1, 0, 3),
      (.level .rxErrorBurst, 0x56, 1, 0, 3), (.level .trunkRxError, 0x57, 1, 0, 3),
      (.level .downlinkMissed, 0x58, 1, 0, 3)];
    (∀ p : Param, p ∈ table.map Prod.fst) ∧
    ∀ p n w lo hi, (p, n, w, lo, hi) ∈ table → p.number = n ∧ p.width = w ∧
      ∀ v, p.inRange v = true ↔ lo ≤ v ∧ v ≤ hi ∧ ¬ (p = .txCode ∧ v = 1)) ∧
  (∀ (v : Nat) (s : State),
    setParam .unknownPolicy 0 s = { s with stab.policy := .drop } ∧
    setParam .unknownPolicy 1 s = { s with stab.policy := .forward } ∧
    setParam .unknownPolicy 2 s = { s with stab.policy := .learn } ∧
    setParam .unknownWindowMs v s = { s with stab.unknownWindowMs := v } ∧
    setParam .rxCode 0 s = { s with profile.code := .manchester } ∧
    setParam .rxCode 1 s = { s with profile.code := .biphaseMark } ∧
    setParam .rxCode 2 s = { s with profile.code := .pulseWidth } ∧
    setParam .rxBitTimeUs v s = { s with profile.bitTimeUs := v } ∧
    setParam .rxPreambleMin v s = { s with profile.preambleMin := v } ∧
    setParam .rxSync v s = { s with profile.sync := BitVec.ofNat 16 v } ∧
    setParam .rxCheckPoly v s = { s with profile.checkPoly := BitVec.ofNat 16 v } ∧
    setParam .rxCheckInit v s = { s with profile.checkInit := BitVec.ofNat 16 v } ∧
    setParam .rxMaxLength v s = { s with profile.maxLength := v } ∧
    setParam .txTickUs v s = { s with ftx.params.tickUs := v } ∧
    setParam .txCode 0 s = { s with ftx.params.code := .manchester } ∧
    setParam .txCode 2 s = { s with ftx.params.code := .pulseWidth } ∧
    setParam .txHalfBitTicks v s = { s with ftx.params.halfBitTicks := v } ∧
    setParam .txPreambleBits v s = { s with ftx.params.preambleBits := v } ∧
    setParam .txSync v s = { s with ftx.params.sync := BitVec.ofNat 16 v } ∧
    setParam .ackTimeoutMs v s = { s with dst.ackTimeoutMs := v } ∧
    setParam .stallLimit v s = { s with dst.stallLimit := v } ∧
    setParam .renotifyS v s = { s with alm.renotifyS := v } ∧
    setParam .errorBurstLimit v s = { s with alm.errorBurstLimit := v })

/-- The parameters whose setting acts at once on more than their value. An enable set to off disables the
receiver and counts an abandonment when a partial telegram was in progress; set to on it takes a DISABLED
receiver to HUNT and leaves any other; SESSION_IDLE_S sets the idle deadline of an OPEN session afresh;
ATTENTION_LEVEL decides ATTN; a cause level joins the notice set from 0, leaves it at 0, and decides ATTN (R38,
R39, R139, R141, R159). -/
def Obligations.ParametersThatActAtOnce : Prop :=
  ∀ s : State,
    let abandons (st : RxState) : Bool := match st with
      | .disabled | .hunt _ => false
      | .preamble _ _ | .sync _ _ _ _ | .body _ _ _ _ _ => true
    let off (r : Receiver) : Receiver :=
      { state := .disabled, counters := { r.counters with
          abandoned := if abandons r.state then bump r.counters.abandoned else r.counters.abandoned } }
    let on (r : Receiver) : Receiver := if r.state = .disabled then { r with state := .hunt none } else r
    setParam .rxEnableA 0 s = { s with profile.enableA := false, fra := off s.fra } ∧
    setParam .rxEnableB 0 s = { s with profile.enableB := false, frb := off s.frb } ∧
    setParam .rxEnableA 1 s = { s with profile.enableA := true, fra := on s.fra } ∧
    setParam .rxEnableB 1 s = { s with profile.enableB := true, frb := on s.frb } ∧
    (∀ v, s.trk.session = .closed → setParam .sessionIdleS v s = { s with trk.sessionIdleS := v }) ∧
    (∀ v, s.trk.session ≠ .closed → setParam .sessionIdleS v s =
      { s with
        trk.sessionIdleS := v
        trk.session := .opened (if v = 0 then none else some (s.now + BitVec.ofNat 32 (v * 1000))) }) ∧
    (∀ v, ∃ b, setParam .attentionLevel v s = { s with alm.attentionLevel := v, alm.attn := b } ∧
      (b = true ↔ ∃ c, pendingCause s c = true ∧ v ≤ (causeState s c).level)) ∧
    (∀ c v, ∃ b m, setParam (.level c) v s =
        { s with
          alm.causes := s.alm.causes.set c.index { causeState s c with level := v }
          alm.attn := b
          trk.notices := s.trk.notices.set c.index m } ∧
      (b = true ↔ ∃ c', pendingCause s c' = true ∧
        s.alm.attentionLevel ≤ (if c' = c then v else (causeState s c').level)) ∧
      m = (if v = 0 then false else inNotices s c ||
        ((causeState s c).level == 0 && pendingCause s c && s.trk.session.isOpen)))

/-- PUT-STATION with settings in range, taken at once in OPEN. A station with an entry keeps its place and its
dynamic fields, takes the settings and becomes PINNED; a new one takes the free place of lowest index or the
place of the evicted entry, whose station is answered; with neither the answer is TABLE_FULL (R2, R3, R17, R18,
R19, R177, R204). -/
def Obligations.PutStationWritesTheEntry : Prop :=
  ∀ (tag : Byte) (id : StationId) (m : Mode) (g w : Word16) (re : Bool) (rd cs ww : Byte) (s : State),
    TakesAtOnce s tag 0x30 → s.trk.session ≠ .closed →
    id ≠ 0 → id ≠ 0xFFFFFF → 10 ≤ g.toNat → g.toNat ≤ 2000 → 100 ≤ w.toNat → w.toNat ≤ 60000 →
    g.toNat ≤ w.toNat → 1 ≤ rd.toNat → rd.toNat ≤ 250 → cs.toNat ≤ 250 → 1 ≤ ww.toNat → ww.toNat ≤ 100 →
    let settings : Settings :=
      { mode := m, gatherMs := g.toNat, repeatMs := w.toNat, replyEnabled := re, replyDelayMs := rd.toNat
        copySpacingMs := cs.toNat, windowWidthMs := ww.toNat }
    let cmd := Instr.putStation tag id m.code g w (if re then 0x01 else 0x00) rd cs ww
    let fresh : Entry :=
      { station := id, origin := .pinned, settings := settings, lastSequence := none, lastHeard := none
        nextDownlinkSeq := 0, accepted := 0, duplicates := 0, stale := 0 }
    let put (i : Fin 64) (e : Entry) : State := { counted s with stab.places := s.stab.places.set i (some e) }
    (∀ i e, lookup s.stab id = some (i, e) → exec cmd s = .next (carriedOut tag 0x30 [byteOf i.val, 0x00]
      (put i { e with settings := settings, origin := .pinned }))) ∧
    (lookup s.stab id = none →
      (∀ i : Fin 64, s.stab.places[i] = none → (∀ j, j < i → s.stab.places[j] ≠ none) →
        exec cmd s = .next (carriedOut tag 0x30 [byteOf i.val, 0x01] (put i fresh))) ∧
      ((∀ j : Fin 64, s.stab.places[j] ≠ none) →
        (∀ (i : Fin 64) (e : Entry), evictee s.now s.stab = some i → s.stab.places[i] = some e →
          exec cmd s = .next (carriedOut tag 0x30 ([byteOf i.val, 0x03] ++ be24 e.station) (put i fresh))) ∧
        (evictee s.now s.stab = none → exec cmd s = .next (refusedWith tag 0x30 .tableFull s))))

/-- DROP-STATION taken at once in OPEN. A reserved ID is refused with BAD_VALUE, an ID without an entry with
NOT_FOUND, a station with a SENDING slot with IN_FLIGHT. Otherwise the entry is freed, the station's GATHERING
records become SETTLED and their items are offered in list order with origin NONE and EARLY_CLOSE, then its
HELD, ARMED and AWAIT_CONFIRM slots reach DISCARDED in slot order, and both numbers are answered. PUT-STATION
with a setting out of range, an undefined mode or reply code, or a reserved ID is refused with BAD_VALUE (R17,
R20, R59, R86, R87, R178, R204). -/
def Obligations.DropStationClosesAndDiscards : Prop :=
  (∀ (tag : Byte) (id : StationId) (s : State), TakesAtOnce s tag 0x31 → s.trk.session ≠ .closed →
    let gathering := s.rpf.records.filter (fun r => r.station == id && r.isGathering)
    let discards (st : SlotState) : Bool := match st with
      | .held d | .armed d _ _ | .awaitConfirm d => d.station == id
      | .free | .sending _ | .reporting _ _ _ => false
    let slots := (List.finRange 16).filter (fun i => discards (slotState s i))
    let sends := ∃ i d, slotState s i = .sending d ∧ d.station = id
    let discard (t : State) (i : Fin 16) : State := match (slotState t i).downlink with
      | none => t
      | some d =>
        { withSlot t i (.reporting d .discarded t.now) with
          dls.counters.discarded := bump t.dls.counters.discarded
          dst.waiting := t.dst.waiting ++ [outcomeNow t i d .discarded] }
    (id = 0 ∨ id = 0xFFFFFF → exec (.dropStation tag id) s = .next (refusedWith tag 0x31 .badValue s)) ∧
    (id ≠ 0 → id ≠ 0xFFFFFF →
      (lookup s.stab id = none → exec (.dropStation tag id) s = .next (refusedWith tag 0x31 .notFound s)) ∧
      (lookup s.stab id ≠ none → sends →
        exec (.dropStation tag id) s = .next (refusedWith tag 0x31 .inFlight s)) ∧
      (∀ i e, lookup s.stab id = some (i, e) → ¬ sends →
        exec (.dropStation tag id) s = .next (carriedOut tag 0x31
          [byteOf gathering.length, byteOf slots.length]
          (slots.foldl discard (gathering.foldl (fun t r => offerTelegram (itemOf r none true) t)
            { counted s with
              stab.places := s.stab.places.set i none
              rpf.records := s.rpf.records.map (fun r =>
                if r.station = id then { r with state := .settled } else r) })))))) ∧
  (∀ (tag : Byte) (id : StationId) (m : Byte) (g w : Word16) (re rd cs ww : Byte) (s : State),
    TakesAtOnce s tag 0x30 → s.trk.session ≠ .closed →
    (id = 0 ∨ id = 0xFFFFFF ∨ 2 < m.toNat ∨ g.toNat < 10 ∨ 2000 < g.toNat ∨ w.toNat < 100 ∨
      60000 < w.toNat ∨ w.toNat < g.toNat ∨ 1 < re.toNat ∨ rd = 0 ∨ 250 < rd.toNat ∨ 250 < cs.toNat ∨
      ww = 0 ∨ 100 < ww.toNat) →
    exec (.putStation tag id m g w re rd cs ww) s = .next (refusedWith tag 0x30 .badValue s))

/-- GET-STATION and LIST-STATIONS taken at once in OPEN change nothing. GET-STATION answers the entry's index,
origin, settings, flags, the dynamic fields that are present, the counts and the number of the station's
non-FREE slots; a reserved ID is BAD_VALUE, an ID without an entry NOT_FOUND. LIST-STATIONS answers up to 8
occupied entries from the start index in order of index, with a continue index exactly when a further one
exists; a start index above 63 is BAD_VALUE (R4, R179, R180, R204, R206). -/
def Obligations.StationsAreRead : Prop :=
  (∀ (tag : Byte) (id : StationId) (s : State), TakesAtOnce s tag 0x32 → s.trk.session ≠ .closed →
    (id = 0 ∨ id = 0xFFFFFF → exec (.getStation tag id) s = .next (refusedWith tag 0x32 .badValue s)) ∧
    (id ≠ 0 → id ≠ 0xFFFFFF → lookup s.stab id = none →
      exec (.getStation tag id) s = .next (refusedWith tag 0x32 .notFound s)) ∧
    (∀ i e, id ≠ 0 → id ≠ 0xFFFFFF → lookup s.stab id = some (i, e) →
      let slots := (List.finRange 16).filter (fun j => (slotState s j).downlink.any (fun d => d.station == id))
      exec (.getStation tag id) s = .next (carriedOut tag 0x32
        ([byteOf i.val, if e.origin = .pinned then 0x01 else 0x02, e.settings.mode.code] ++
          be16 e.settings.gatherMs ++ be16 e.settings.repeatMs ++
          [if e.settings.replyEnabled then 0x01 else 0x00, byteOf e.settings.replyDelayMs,
            byteOf e.settings.copySpacingMs, byteOf e.settings.windowWidthMs,
            byteOf ((if e.lastSequence.isSome then 1 else 0) + if e.lastHeard.isSome then 2 else 0)] ++
          e.lastSequence.toList ++ (e.lastHeard.toList.flatMap be32) ++ [e.nextDownlinkSeq] ++
          be16 e.accepted ++ be16 e.duplicates ++ be16 e.stale ++ [byteOf slots.length]) (counted s)))) ∧
  (∀ (tag start : Byte) (s : State), TakesAtOnce s tag 0x33 → s.trk.session ≠ .closed →
    (63 < start.toNat → exec (.listStations tag start) s = .next (refusedWith tag 0x33 .badValue s)) ∧
    (start.toNat ≤ 63 →
      let found := ((List.finRange 64).drop start.toNat).filterMap
        (fun i => (s.stab.places[i]).map (fun e => (i, e)))
      let rows := fun l : List (Fin 64 × Entry) => l.flatMap (fun p =>
        [byteOf p.1.val] ++ be24 p.2.station ++ [if p.2.origin = .pinned then 0x01 else 0x02])
      (found.length ≤ 8 → exec (.listStations tag start) s = .next (carriedOut tag 0x33
        ([byteOf found.length, 0x00] ++ rows found) (counted s))) ∧
      (∀ before i e others, found = before ++ (i, e) :: others → before.length = 7 → others ≠ [] →
        exec (.listStations tag start) s = .next (carriedOut tag 0x33
          ([0x08, 0x01, byteOf (i.val + 1)] ++ rows (before ++ [(i, e)])) (counted s)))))

/-- QUEUE-DOWNLINK taken at once in OPEN. Accepted, it fills the FREE place of lowest index under the place's
next generation: HELD, with the request's host tag, payload and attempts, the entry's next downlink sequence
(which advances), transmissions 0, the lifetime deadline, and a queue order later than every slot's; the handle
and sequence are answered. Refusals come in the order BAD_VALUE, NOT_FOUND, NO_REPLY, STATION_LIMIT, POOL_FULL
(R4, R68, R69, R72, R73, R181, R203). -/
def Obligations.QueueDownlinkFillsAPlace : Prop :=
  ∀ (tag : Byte) (id : StationId) (hostTag attempts : Byte) (life : Word16) (payload : List Byte) (s : State),
    TakesAtOnce s tag 0x40 → s.trk.session ≠ .closed → payload.length ≤ 71 →
    let cmd := Instr.queueDownlink tag id hostTag attempts life payload
    let valid := id ≠ 0 ∧ id ≠ 0xFFFFFF ∧ hostTag ≠ 0 ∧ 1 ≤ attempts.toNat ∧ attempts.toNat ≤ 8 ∧
      1 ≤ life.toNat ∧ life.toNat ≤ 3600 ∧ payload.length ≤ 24
    let mine := ((List.finRange 16).filter
      (fun j => (slotState s j).downlink.any (fun d => d.station == id))).length
    (¬ valid → exec cmd s = .next (refusedWith tag 0x40 .badValue s)) ∧
    (valid → lookup s.stab id = none → exec cmd s = .next (refusedWith tag 0x40 .notFound s)) ∧
    (∀ j e, valid → lookup s.stab id = some (j, e) →
      (e.settings.replyEnabled = false → exec cmd s = .next (refusedWith tag 0x40 .noReply s)) ∧
      (e.settings.replyEnabled = true → 4 ≤ mine →
        exec cmd s = .next (refusedWith tag 0x40 .stationLimit s)) ∧
      (e.settings.replyEnabled = true → mine < 4 → (∀ i, slotState s i ≠ .free) →
        exec cmd s = .next (refusedWith tag 0x40 .poolFull s)) ∧
      (∀ i, e.settings.replyEnabled = true → mine < 4 → slotState s i = .free →
        (∀ k, k < i → slotState s k ≠ .free) →
        ∃ order, (∀ k d, (slotState s k).downlink = some d → d.order < order) ∧
          exec cmd s = .next (carriedOut tag 0x40
            [byteOf i.val, s.dls.places[i].generation + 1, e.nextDownlinkSeq]
            { counted s with
              stab.places := s.stab.places.set j (some { e with nextDownlinkSeq := e.nextDownlinkSeq + 1 })
              dls.places := s.dls.places.set i
                { generation := s.dls.places[i].generation + 1
                  state := .held
                    { station := id, hostTag := hostTag, sequence := e.nextDownlinkSeq, payload := payload
                      attemptsLeft := attempts.toNat, transmissions := 0
                      lifetimeDeadline := s.now + BitVec.ofNat 32 (life.toNat * 1000), order := order } }
              dls.counters.queued := bump s.dls.counters.queued })))

/-- CANCEL-DOWNLINK and GET-DOWNLINK taken at once in OPEN. A slot index above 15 is BAD_VALUE; a FREE place or
another generation is NOT_FOUND. A cancel in HELD, ARMED or AWAIT_CONFIRM gives the result CANCELLED, in
SENDING it is IN_FLIGHT, in REPORTING it is DONE with the result and its time. GET-DOWNLINK answers the fields
of its state and changes nothing (R70, R85, R87, R90, R182, R183, R204). -/
def Obligations.DownlinksAreCancelledAndRead : Prop :=
  ∀ (tag gen : Byte) (s : State), s.trk.session ≠ .closed →
    (∀ slot : Byte, 15 < slot.toNat →
      (TakesAtOnce s tag 0x41 →
        exec (.cancelDownlink tag slot gen) s = .next (refusedWith tag 0x41 .badValue s)) ∧
      (TakesAtOnce s tag 0x42 →
        exec (.getDownlink tag slot gen) s = .next (refusedWith tag 0x42 .badValue s))) ∧
    (∀ i : Fin 16, (slotState s i = .free ∨ s.dls.places[i].generation ≠ gen) →
      (TakesAtOnce s tag 0x41 →
        exec (.cancelDownlink tag (byteOf i.val) gen) s = .next (refusedWith tag 0x41 .notFound s)) ∧
      (TakesAtOnce s tag 0x42 →
        exec (.getDownlink tag (byteOf i.val) gen) s = .next (refusedWith tag 0x42 .notFound s))) ∧
    (∀ (i : Fin 16) (d : Downlink), s.dls.places[i].generation = gen →
      let cancel := exec (.cancelDownlink tag (byteOf i.val) gen) s
      let common (code : Byte) : List Byte := [code] ++ be24 d.station ++
        [d.hostTag, d.sequence, byteOf d.payload.length, byteOf d.attemptsLeft, byteOf d.transmissions] ++
        be32 d.lifetimeDeadline
      let reads (bs : List Byte) : Prop :=
        exec (.getDownlink tag (byteOf i.val) gen) s = .next (carriedOut tag 0x42 bs (counted s))
      let earlier := (List.finRange 16).filter (fun j => match slotState s j with
        | .held f => f.station == d.station && decide (f.order < d.order)
        | .free | .armed _ _ _ | .sending _ | .awaitConfirm _ | .reporting _ _ _ => false)
      (TakesAtOnce s tag 0x41 →
        (slotState s i = .held d ∨ (∃ o c, slotState s i = .armed d o c) ∨ slotState s i = .awaitConfirm d →
          cancel = .next (carriedOut tag 0x41 []
            { counted s with
              dls := { (withSlot s i (.reporting d .cancelled s.now)).dls with
                counters.cancelled := bump s.dls.counters.cancelled }
              ftx := (withSlot s i (.reporting d .cancelled s.now)).ftx
              dst.waiting := s.dst.waiting ++ [outcomeNow s i d .cancelled] })) ∧
        (slotState s i = .sending d → cancel = .next (refusedWith tag 0x41 .inFlight s)) ∧
        (∀ r time, slotState s i = .reporting d r time →
          cancel = .next (answered (replyWith tag 0x41 .done ([r.code] ++ be32 time)) false (counted s)))) ∧
      (TakesAtOnce s tag 0x42 →
        (slotState s i = .held d → reads (common 0x01 ++ [byteOf (earlier.length + 1)])) ∧
        (∀ o c, slotState s i = .armed d o c → reads (common 0x02 ++ be32 o ++ be32 c)) ∧
        (slotState s i = .sending d → reads (common 0x03)) ∧
        (slotState s i = .awaitConfirm d → reads (common 0x04)) ∧
        (∀ r time, slotState s i = .reporting d r time → reads (common 0x05 ++ [r.code] ++ be32 time))))

/-! ## Causes, counters and the carrier -/

/-- A raise: a cause that is not pending becomes pending with count 1 and the part time as first time, joins
the notice set if its level is 1 or more and the session is OPEN, and ATTN is decided; a pending one only counts,
up to 255. RENOTIFY_DEADLINE reached: the pending causes of level 1 or more join the notice set while the
session is OPEN, and the next deadline is the one reached plus RENOTIFY_S × 1000. PER_SECOND_BOUNDARY at a
multiple of 1000 zeroes the burst count (R135, R136, R138, R141, R142, R194; log entry 6). -/
def Obligations.RaisesAndReminders : Prop :=
  ∀ s : State,
    (∀ c o, (causeState s c).occurrence = some o →
      raise c s = { s with
        alm.causes := s.alm.causes.set c.index
          { causeState s c with
            occurrence := some { o with count := if o.count < 255 then o.count + 1 else o.count } } }) ∧
    (∀ c, (causeState s c).occurrence = none →
      let joins := s.trk.session ≠ .closed ∧ 1 ≤ (causeState s c).level
      ∃ b m, raise c s = { s with
          alm.causes := s.alm.causes.set c.index
            { causeState s c with occurrence := some { count := 1, first := s.now } }
          alm.attn := b
          trk.notices := s.trk.notices.set c.index m } ∧
        (b = true ↔ s.alm.attentionLevel ≤ (causeState s c).level ∨
          ∃ c', pendingCause s c' = true ∧ s.alm.attentionLevel ≤ (causeState s c').level) ∧
        (joins → m = true) ∧ (¬ joins → m = inNotices s c)) ∧
    (Running s →
      (reached s.now s.alm.renotifyDeadline = true → ∃ notices : Vector Bool 8,
        (∀ c : Cause, notices[c.index] = (inNotices s c || noticeDue s c)) ∧
        exec .renotifyDeadline s = .next (settle { s with
          trk.notices := notices
          alm.renotifyDeadline := s.alm.renotifyDeadline + BitVec.ofNat 32 (s.alm.renotifyS * 1000) })) ∧
      (reached s.now s.alm.renotifyDeadline = false → exec .renotifyDeadline s = .next (settle s))) ∧
    (Resting s →
      (s.now.toNat % 1000 = 0 → exec .perSecondBoundary s = .next { s with alm.burstCount := 0 }) ∧
      (s.now.toNat % 1000 ≠ 0 → exec .perSecondBoundary s = .next s))

/-- GET-CAUSES and CLEAR-CAUSE taken at once in OPEN. GET-CAUSES answers flags, count, level and, while
pending, first time of the eight causes in order and changes nothing. CLEAR-CAUSE answers count and first time
before the clear; the cause is not pending, has left the notice set and keeps its level, and ATTN is decided. A
number outside 1 to 8 is BAD_VALUE (R134, R140, R141, R184, R204). -/
def Obligations.CausesAreReadAndCleared : Prop :=
  ∀ (tag : Byte) (s : State), s.trk.session ≠ .closed →
    (TakesAtOnce s tag 0x50 → exec (.getCauses tag) s = .next (carriedOut tag 0x50
      (allCauses.flatMap (fun c => match (causeState s c).occurrence with
        | none => [0x00, 0x00, byteOf (causeState s c).level]
        | some o => [0x01, byteOf o.count, byteOf (causeState s c).level] ++ be32 o.first)) (counted s))) ∧
    (TakesAtOnce s tag 0x51 →
      (∀ c : Cause, ∃ b, exec (.clearCause tag (byteOf c.number)) s = .next (carriedOut tag 0x51
          (match (causeState s c).occurrence with
            | none => [0x00, 0x00]
            | some o => [0x01, byteOf o.count] ++ be32 o.first)
          { counted s with
            alm.causes := s.alm.causes.set c.index { causeState s c with occurrence := none }
            alm.attn := b
            trk.notices := s.trk.notices.set c.index false }) ∧
        (b = true ↔ ∃ c', c' ≠ c ∧ pendingCause s c' = true ∧
          s.alm.attentionLevel ≤ (causeState s c').level)) ∧
      (∀ n : Byte, n = 0 ∨ 8 < n.toNat →
        exec (.clearCause tag n) s = .next (refusedWith tag 0x51 .badValue s)))

/-- GET-COUNTERS and CLEAR-COUNTERS taken at once in OPEN answer the group and its counters in the order of the
owner's table, which is spelt out for the seven groups, two bytes each; CLEAR-COUNTERS then sets all of that
group to 0 and leaves every other group and all other state. A group code outside 1 to 7 is BAD_VALUE (R40, R65,
R91, R111, R131, R163, R185, R186, R204, R206). -/
def Obligations.CountersAreReadAndCleared : Prop :=
  (∀ (tag : Byte) (g : CounterGroup) (s : State), s.trk.session ≠ .closed →
    let code : Byte := match g with
      | .rxA => 0x01
      | .rxB => 0x02
      | .filter => 0x03
      | .downlink => 0x04
      | .transmit => 0x05
      | .stream => 0x06
      | .trunk => 0x07
    let results := [code] ++ (groupCounters g (counted s)).flatMap be16
    (TakesAtOnce s tag 0x52 → exec (.getCounters tag code) s = .next (carriedOut tag 0x52 results (counted s))) ∧
    (TakesAtOnce s tag 0x53 → exec (.clearCounters tag code) s =
      .next (carriedOut tag 0x53 results (clearGroup g (counted s))))) ∧
  (∀ (tag n : Byte) (s : State), s.trk.session ≠ .closed → n = 0 ∨ 7 < n.toNat →
    (TakesAtOnce s tag 0x52 → exec (.getCounters tag n) s = .next (refusedWith tag 0x52 .badValue s)) ∧
    (TakesAtOnce s tag 0x53 → exec (.clearCounters tag n) s = .next (refusedWith tag 0x53 .badValue s))) ∧
  (∀ s : State,
    (∀ r : Receiver, (r = s.fra → groupCounters .rxA s = r.counters.toList) ∧
      (r = s.frb → groupCounters .rxB s = r.counters.toList) ∧
      r.counters.toList = [r.counters.copiesDelivered, r.counters.preambleLost, r.counters.syncMissing,
        r.counters.codeViolations, r.counters.lengthErrors, r.counters.formatErrors, r.counters.checkErrors,
        r.counters.abandoned]) ∧
    (let k := s.rpf.counters
     groupCounters .filter s = [k.accepted, k.duplicates, k.conflicts, k.lateRepeats, k.stale, k.blocked,
      k.unknownDropped, k.learned, k.learnFailures, k.evictions, k.itemsLost]) ∧
    (let k := s.dls.counters
     groupCounters .downlink s = [k.queued, k.transmissions, k.confirmed, k.failed, k.expired, k.cancelled,
      k.discarded, k.missedWindows, k.staleConfirms, k.busyUplinks]) ∧
    (let k := s.ftx.counters
     groupCounters .transmit s = [k.started, k.completed, k.aborted, k.tests]) ∧
    (let k := s.dst.counters
     groupCounters .stream s = [k.itemsSent, k.resends, k.acknowledged, k.badAcks, k.stalls, k.droppedAtFresh]) ∧
    (let k := s.trk.counters
     groupCounters .trunk s = [k.validFrames, k.lineErrors, k.badEscapes, k.oversize, k.runts, k.badChecks,
      k.badKinds, k.overruns, k.duplicates, k.idleCloses, k.responsesSent, k.noticesSent, k.streamFramesSent,
      k.framesAborted, k.opens])) ∧
  (∀ (g : CounterGroup) (s : State),
    (groupCounters g (clearGroup g s)) = List.replicate (groupCounters g s).length 0 ∧
    (∀ h, h ≠ g → groupCounters h (clearGroup g s) = groupCounters h s) ∧
    (let t := clearGroup g s
     t = { s with
       fra.counters := t.fra.counters, frb.counters := t.frb.counters, rpf.counters := t.rpf.counters
       dls.counters := t.dls.counters, ftx.counters := t.ftx.counters, dst.counters := t.dst.counters
       trk.counters := t.trk.counters }))

/-- CARRIER-TEST and CARRIER-STOP taken at once in OPEN. A duration of 1 to 5000 ms starts a test from IDLE,
counting it, or sets the test end afresh in TESTING, with both lines asserted, and answers the test end; in
SENDING and STOPPING it is BUSY, and another duration is BAD_VALUE. CARRIER-STOP ends a test with both lines
deasserted and the arbiter's decision and answers yes; in the other states it changes nothing and answers no
(R99, R106, R107, R187, R188, R204). -/
def Obligations.CarrierTestsAndStops : Prop :=
  ∀ (tag : Byte) (s : State), s.trk.session ≠ .closed →
    (∀ ms : Word16, TakesAtOnce s tag 0x60 →
      let testEnd : PartTime := s.now + BitVec.ofNat 32 ms.toNat
      let tests := { counted s with
        ftx.state := .testing testEnd, ftx.keyLine := true, ftx.enLine := true }
      (¬ (1 ≤ ms.toNat ∧ ms.toNat ≤ 5000) →
        exec (.carrierTest tag ms) s = .next (refusedWith tag 0x60 .badValue s)) ∧
      (1 ≤ ms.toNat → ms.toNat ≤ 5000 →
        (s.ftx.state = .idle → exec (.carrierTest tag ms) s = .next (carriedOut tag 0x60 (be32 testEnd)
          { tests with ftx.counters.tests := bump s.ftx.counters.tests })) ∧
        (∀ d, s.ftx.state = .testing d →
          exec (.carrierTest tag ms) s = .next (carriedOut tag 0x60 (be32 testEnd) tests)) ∧
        ((∃ snap i n, s.ftx.state = .sending snap i n) ∨ (∃ rest, s.ftx.state = .stopping rest) →
          exec (.carrierTest tag ms) s = .next (refusedWith tag 0x60 .busy s)))) ∧
    (TakesAtOnce s tag 0x61 →
      (∀ d, s.ftx.state = .testing d → exec (.carrierStop tag) s = .next (carriedOut tag 0x61 [0x01]
        (arbiter { counted s with ftx.state := .idle, ftx.keyLine := false, ftx.enLine := false }))) ∧
      ((∀ d, s.ftx.state ≠ .testing d) →
        exec (.carrierStop tag) s = .next (carriedOut tag 0x61 [0x00] (counted s))))

/-! ## Invariants -/

/-- The state after a full reset, whatever the levels of RSEL1 and RSEL0, and so State.reset, whose levels are
the model's choice (log entry 2), is a resting state and meets every invariant. -/
def Obligations.ResetMeetsTheInvariants : Prop :=
  ∀ (a b : Bool) (queue : List Instr),
    let s := State.afterReset a b queue
    Resting s ∧ AttnInv s ∧ ParamInv s ∧ StreamInv s ∧ TrunkInv s ∧ TableInv s ∧ SlotInv s

/-- Every step keeps ATTN asserted exactly while a pending cause has a level not lower than ATTENTION_LEVEL,
and deasserted while the part is held in full reset; every step keeps every parameter within its range (R141,
R176, R196, R207). -/
def Obligations.AttnAndParametersStay : Prop :=
  (∀ s t : State, AttnInv s → step s = .next t → AttnInv t) ∧
  (∀ s t : State, ParamInv s → step s = .next t → ParamInv t)

/-- Every step keeps the delivery stream consistent while the part runs: at most 8 unacknowledged items,
numbered consecutively up to the next delivery sequence, those marked for resend at the newest end, at most 24
TELEGRAM items, the timer running only over a window in RUNNING, and a CLOSED session with an empty window
(R115, R118, R120, R121, R122, R127, R129). -/
def Obligations.StreamStaysConsistent : Prop :=
  ∀ s t : State, WhileRunning StreamInv s → step s = .next t → WhileRunning StreamInv t

/-- Every step keeps the trunk link consistent while the part runs: buffers within their sizes, cache tags
distinct and not 0, the wait count at most 3, a content of at most 84 bytes, the notice set within the pending
causes of level 1 or more of an OPEN session, the idle deadline present exactly when SESSION_IDLE_S is not 0,
and the engine waiting exactly while the response it waits for is still to be sent (R136, R148, R150, R152,
R154, R155, R159, R162, R166). -/
def Obligations.TrunkStaysConsistent : Prop :=
  ∀ s t : State, WhileRunning TrunkInv s → step s = .next t → WhileRunning TrunkInv t

/-- Every step keeps the station table and the recent-telegram list consistent while the part runs: one entry
for a station, one record for a telegram, at most 48 records, LEARNED entries IMMEDIATE with reply disabled,
and a PINNED entry for every GATHERING record and every slot in HELD, ARMED, SENDING or AWAIT_CONFIRM (R1, R11,
R44, R60, R71). -/
def Obligations.TableStaysConsistent : Prop :=
  ∀ s t : State, WhileRunning TableInv s → step s = .next t → WhileRunning TableInv t

/-- Every step keeps the downlink store and the transmitter consistent while the part runs: the transmitter is
SENDING exactly the slot in SENDING, candidates are ARMED, each REPORTING slot has its one OUTCOME item, a
station has at most one active slot, the first in its queue order, and at most four slots, attempts never
exceed 8, and FTX_EN and FTX_KEY stand as the transmitter's state requires: in SENDING and STOPPING, FTX_KEY is
at the level of the present tick while one is left (R69, R71, R76, R96, R97, R99, R100, R101, R115). -/
def Obligations.SlotsStayConsistent : Prop :=
  ∀ s t : State, WhileRunning SlotInv s → step s = .next t → WhileRunning SlotInv t

end Statements
end

