-- ==== Sys2Proof/Laws/State.lean ====
section
/-!
SUPPORT. The small lemmas of the state's updates: what each one leaves in every field, true by `rfl`, so that
no later proof unfolds a record update.
-/

namespace Sys2Proof.Machine

/-! ### setCause -/

@[simp] theorem setCause_inReset (c : Cause) (k : CauseState) (s : State) : (setCause c k s).inReset = s.inReset := rfl
@[simp] theorem setCause_tbs (c : Cause) (k : CauseState) (s : State) : (setCause c k s).tbs = s.tbs := rfl
@[simp] theorem setCause_profile (c : Cause) (k : CauseState) (s : State) : (setCause c k s).profile = s.profile := rfl
@[simp] theorem setCause_fra (c : Cause) (k : CauseState) (s : State) : (setCause c k s).fra = s.fra := rfl
@[simp] theorem setCause_frb (c : Cause) (k : CauseState) (s : State) : (setCause c k s).frb = s.frb := rfl
@[simp] theorem setCause_stab (c : Cause) (k : CauseState) (s : State) : (setCause c k s).stab = s.stab := rfl
@[simp] theorem setCause_rpf (c : Cause) (k : CauseState) (s : State) : (setCause c k s).rpf = s.rpf := rfl
@[simp] theorem setCause_dls (c : Cause) (k : CauseState) (s : State) : (setCause c k s).dls = s.dls := rfl
@[simp] theorem setCause_ftx (c : Cause) (k : CauseState) (s : State) : (setCause c k s).ftx = s.ftx := rfl
@[simp] theorem setCause_dst (c : Cause) (k : CauseState) (s : State) : (setCause c k s).dst = s.dst := rfl
@[simp] theorem setCause_trk (c : Cause) (k : CauseState) (s : State) : (setCause c k s).trk = s.trk := rfl
@[simp] theorem setCause_mre (c : Cause) (k : CauseState) (s : State) : (setCause c k s).mre = s.mre := rfl
@[simp] theorem setCause_pending (c : Cause) (k : CauseState) (s : State) : (setCause c k s).pending = s.pending := rfl
@[simp] theorem setCause_alm_causes (c : Cause) (k : CauseState) (s : State) :
    (setCause c k s).alm.causes =
      s.alm.causes.set c.index k := rfl
@[simp] theorem setCause_alm_attentionLevel (c : Cause) (k : CauseState) (s : State) :
    (setCause c k s).alm.attentionLevel =
      s.alm.attentionLevel := rfl
@[simp] theorem setCause_alm_renotifyS (c : Cause) (k : CauseState) (s : State) :
    (setCause c k s).alm.renotifyS =
      s.alm.renotifyS := rfl
@[simp] theorem setCause_alm_renotifyDeadline (c : Cause) (k : CauseState) (s : State) :
    (setCause c k s).alm.renotifyDeadline =
      s.alm.renotifyDeadline := rfl
@[simp] theorem setCause_alm_burstCount (c : Cause) (k : CauseState) (s : State) :
    (setCause c k s).alm.burstCount =
      s.alm.burstCount := rfl
@[simp] theorem setCause_alm_errorBurstLimit (c : Cause) (k : CauseState) (s : State) :
    (setCause c k s).alm.errorBurstLimit =
      s.alm.errorBurstLimit := rfl
@[simp] theorem setCause_alm_attn (c : Cause) (k : CauseState) (s : State) :
    (setCause c k s).alm.attn =
      s.alm.attn := rfl

/-! ### setNotice -/

@[simp] theorem setNotice_inReset (c : Cause) (b : Bool) (s : State) : (setNotice c b s).inReset = s.inReset := rfl
@[simp] theorem setNotice_tbs (c : Cause) (b : Bool) (s : State) : (setNotice c b s).tbs = s.tbs := rfl
@[simp] theorem setNotice_profile (c : Cause) (b : Bool) (s : State) : (setNotice c b s).profile = s.profile := rfl
@[simp] theorem setNotice_fra (c : Cause) (b : Bool) (s : State) : (setNotice c b s).fra = s.fra := rfl
@[simp] theorem setNotice_frb (c : Cause) (b : Bool) (s : State) : (setNotice c b s).frb = s.frb := rfl
@[simp] theorem setNotice_stab (c : Cause) (b : Bool) (s : State) : (setNotice c b s).stab = s.stab := rfl
@[simp] theorem setNotice_rpf (c : Cause) (b : Bool) (s : State) : (setNotice c b s).rpf = s.rpf := rfl
@[simp] theorem setNotice_dls (c : Cause) (b : Bool) (s : State) : (setNotice c b s).dls = s.dls := rfl
@[simp] theorem setNotice_ftx (c : Cause) (b : Bool) (s : State) : (setNotice c b s).ftx = s.ftx := rfl
@[simp] theorem setNotice_dst (c : Cause) (b : Bool) (s : State) : (setNotice c b s).dst = s.dst := rfl
@[simp] theorem setNotice_mre (c : Cause) (b : Bool) (s : State) : (setNotice c b s).mre = s.mre := rfl
@[simp] theorem setNotice_alm (c : Cause) (b : Bool) (s : State) : (setNotice c b s).alm = s.alm := rfl
@[simp] theorem setNotice_pending (c : Cause) (b : Bool) (s : State) : (setNotice c b s).pending = s.pending := rfl
@[simp] theorem setNotice_trk_notices (c : Cause) (b : Bool) (s : State) :
    (setNotice c b s).trk.notices =
      s.trk.notices.set c.index b := rfl
@[simp] theorem setNotice_trk_sampler (c : Cause) (b : Bool) (s : State) :
    (setNotice c b s).trk.sampler =
      s.trk.sampler := rfl
@[simp] theorem setNotice_trk_assembler (c : Cause) (b : Bool) (s : State) :
    (setNotice c b s).trk.assembler =
      s.trk.assembler := rfl
@[simp] theorem setNotice_trk_held (c : Cause) (b : Bool) (s : State) :
    (setNotice c b s).trk.held =
      s.trk.held := rfl
@[simp] theorem setNotice_trk_responses (c : Cause) (b : Bool) (s : State) :
    (setNotice c b s).trk.responses =
      s.trk.responses := rfl
@[simp] theorem setNotice_trk_cache (c : Cause) (b : Bool) (s : State) :
    (setNotice c b s).trk.cache =
      s.trk.cache := rfl
@[simp] theorem setNotice_trk_session (c : Cause) (b : Bool) (s : State) :
    (setNotice c b s).trk.session =
      s.trk.session := rfl
@[simp] theorem setNotice_trk_sessionIdleS (c : Cause) (b : Bool) (s : State) :
    (setNotice c b s).trk.sessionIdleS =
      s.trk.sessionIdleS := rfl
@[simp] theorem setNotice_trk_streamWait (c : Cause) (b : Bool) (s : State) :
    (setNotice c b s).trk.streamWait =
      s.trk.streamWait := rfl
@[simp] theorem setNotice_trk_line (c : Cause) (b : Bool) (s : State) :
    (setNotice c b s).trk.line =
      s.trk.line := rfl
@[simp] theorem setNotice_trk_counters (c : Cause) (b : Bool) (s : State) :
    (setNotice c b s).trk.counters =
      s.trk.counters := rfl

/-! ### decideAttn -/

@[simp] theorem decideAttn_inReset (s : State) : (decideAttn s).inReset = s.inReset := rfl
@[simp] theorem decideAttn_tbs (s : State) : (decideAttn s).tbs = s.tbs := rfl
@[simp] theorem decideAttn_profile (s : State) : (decideAttn s).profile = s.profile := rfl
@[simp] theorem decideAttn_fra (s : State) : (decideAttn s).fra = s.fra := rfl
@[simp] theorem decideAttn_frb (s : State) : (decideAttn s).frb = s.frb := rfl
@[simp] theorem decideAttn_stab (s : State) : (decideAttn s).stab = s.stab := rfl
@[simp] theorem decideAttn_rpf (s : State) : (decideAttn s).rpf = s.rpf := rfl
@[simp] theorem decideAttn_dls (s : State) : (decideAttn s).dls = s.dls := rfl
@[simp] theorem decideAttn_ftx (s : State) : (decideAttn s).ftx = s.ftx := rfl
@[simp] theorem decideAttn_dst (s : State) : (decideAttn s).dst = s.dst := rfl
@[simp] theorem decideAttn_trk (s : State) : (decideAttn s).trk = s.trk := rfl
@[simp] theorem decideAttn_mre (s : State) : (decideAttn s).mre = s.mre := rfl
@[simp] theorem decideAttn_pending (s : State) : (decideAttn s).pending = s.pending := rfl
@[simp] theorem decideAttn_alm_attn (s : State) : (decideAttn s).alm.attn = attnDue s := rfl
@[simp] theorem decideAttn_alm_causes (s : State) : (decideAttn s).alm.causes = s.alm.causes := rfl
@[simp] theorem decideAttn_alm_attentionLevel (s : State) :
    (decideAttn s).alm.attentionLevel =
      s.alm.attentionLevel := rfl
@[simp] theorem decideAttn_alm_renotifyS (s : State) : (decideAttn s).alm.renotifyS = s.alm.renotifyS := rfl
@[simp] theorem decideAttn_alm_renotifyDeadline (s : State) :
    (decideAttn s).alm.renotifyDeadline =
      s.alm.renotifyDeadline := rfl
@[simp] theorem decideAttn_alm_burstCount (s : State) :
    (decideAttn s).alm.burstCount =
      s.alm.burstCount := rfl
@[simp] theorem decideAttn_alm_errorBurstLimit (s : State) :
    (decideAttn s).alm.errorBurstLimit =
      s.alm.errorBurstLimit := rfl

/-! ### offerOutcome -/

@[simp] theorem offerOutcome_inReset (o : OutcomeItem) (s : State) : (offerOutcome o s).inReset = s.inReset := rfl
@[simp] theorem offerOutcome_tbs (o : OutcomeItem) (s : State) : (offerOutcome o s).tbs = s.tbs := rfl
@[simp] theorem offerOutcome_profile (o : OutcomeItem) (s : State) : (offerOutcome o s).profile = s.profile := rfl
@[simp] theorem offerOutcome_fra (o : OutcomeItem) (s : State) : (offerOutcome o s).fra = s.fra := rfl
@[simp] theorem offerOutcome_frb (o : OutcomeItem) (s : State) : (offerOutcome o s).frb = s.frb := rfl
@[simp] theorem offerOutcome_stab (o : OutcomeItem) (s : State) : (offerOutcome o s).stab = s.stab := rfl
@[simp] theorem offerOutcome_rpf (o : OutcomeItem) (s : State) : (offerOutcome o s).rpf = s.rpf := rfl
@[simp] theorem offerOutcome_dls (o : OutcomeItem) (s : State) : (offerOutcome o s).dls = s.dls := rfl
@[simp] theorem offerOutcome_ftx (o : OutcomeItem) (s : State) : (offerOutcome o s).ftx = s.ftx := rfl
@[simp] theorem offerOutcome_trk (o : OutcomeItem) (s : State) : (offerOutcome o s).trk = s.trk := rfl
@[simp] theorem offerOutcome_mre (o : OutcomeItem) (s : State) : (offerOutcome o s).mre = s.mre := rfl
@[simp] theorem offerOutcome_alm (o : OutcomeItem) (s : State) : (offerOutcome o s).alm = s.alm := rfl
@[simp] theorem offerOutcome_pending (o : OutcomeItem) (s : State) : (offerOutcome o s).pending = s.pending := rfl
@[simp] theorem offerOutcome_dst_waiting (o : OutcomeItem) (s : State) :
    (offerOutcome o s).dst.waiting =
      s.dst.waiting ++ [.outcome o] := rfl
@[simp] theorem offerOutcome_dst_window (o : OutcomeItem) (s : State) :
    (offerOutcome o s).dst.window =
      s.dst.window := rfl
@[simp] theorem offerOutcome_dst_nextSequence (o : OutcomeItem) (s : State) :
    (offerOutcome o s).dst.nextSequence =
      s.dst.nextSequence := rfl
@[simp] theorem offerOutcome_dst_timer (o : OutcomeItem) (s : State) :
    (offerOutcome o s).dst.timer =
      s.dst.timer := rfl
@[simp] theorem offerOutcome_dst_state (o : OutcomeItem) (s : State) :
    (offerOutcome o s).dst.state =
      s.dst.state := rfl
@[simp] theorem offerOutcome_dst_timeoutCount (o : OutcomeItem) (s : State) :
    (offerOutcome o s).dst.timeoutCount =
      s.dst.timeoutCount := rfl
@[simp] theorem offerOutcome_dst_ackTimeoutMs (o : OutcomeItem) (s : State) :
    (offerOutcome o s).dst.ackTimeoutMs =
      s.dst.ackTimeoutMs := rfl
@[simp] theorem offerOutcome_dst_stallLimit (o : OutcomeItem) (s : State) :
    (offerOutcome o s).dst.stallLimit =
      s.dst.stallLimit := rfl
@[simp] theorem offerOutcome_dst_counters (o : OutcomeItem) (s : State) :
    (offerOutcome o s).dst.counters =
      s.dst.counters := rfl

/-! ### setPlace -/

@[simp] theorem setPlace_inReset (i : Fin 64) (e : Option Entry) (s : State) : (setPlace i e s).inReset = s.inReset := rfl
@[simp] theorem setPlace_tbs (i : Fin 64) (e : Option Entry) (s : State) : (setPlace i e s).tbs = s.tbs := rfl
@[simp] theorem setPlace_profile (i : Fin 64) (e : Option Entry) (s : State) : (setPlace i e s).profile = s.profile := rfl
@[simp] theorem setPlace_fra (i : Fin 64) (e : Option Entry) (s : State) : (setPlace i e s).fra = s.fra := rfl
@[simp] theorem setPlace_frb (i : Fin 64) (e : Option Entry) (s : State) : (setPlace i e s).frb = s.frb := rfl
@[simp] theorem setPlace_rpf (i : Fin 64) (e : Option Entry) (s : State) : (setPlace i e s).rpf = s.rpf := rfl
@[simp] theorem setPlace_dls (i : Fin 64) (e : Option Entry) (s : State) : (setPlace i e s).dls = s.dls := rfl
@[simp] theorem setPlace_ftx (i : Fin 64) (e : Option Entry) (s : State) : (setPlace i e s).ftx = s.ftx := rfl
@[simp] theorem setPlace_dst (i : Fin 64) (e : Option Entry) (s : State) : (setPlace i e s).dst = s.dst := rfl
@[simp] theorem setPlace_trk (i : Fin 64) (e : Option Entry) (s : State) : (setPlace i e s).trk = s.trk := rfl
@[simp] theorem setPlace_mre (i : Fin 64) (e : Option Entry) (s : State) : (setPlace i e s).mre = s.mre := rfl
@[simp] theorem setPlace_alm (i : Fin 64) (e : Option Entry) (s : State) : (setPlace i e s).alm = s.alm := rfl
@[simp] theorem setPlace_pending (i : Fin 64) (e : Option Entry) (s : State) : (setPlace i e s).pending = s.pending := rfl
@[simp] theorem setPlace_stab_places (i : Fin 64) (e : Option Entry) (s : State) :
    (setPlace i e s).stab.places =
      s.stab.places.set i e := rfl
@[simp] theorem setPlace_stab_policy (i : Fin 64) (e : Option Entry) (s : State) :
    (setPlace i e s).stab.policy =
      s.stab.policy := rfl
@[simp] theorem setPlace_stab_unknownWindowMs (i : Fin 64) (e : Option Entry) (s : State) :
    (setPlace i e s).stab.unknownWindowMs =
      s.stab.unknownWindowMs := rfl

/-! ### setSlot -/

@[simp] theorem setSlot_inReset (i : Fin 16) (st : SlotState) (s : State) : (setSlot i st s).inReset = s.inReset := rfl
@[simp] theorem setSlot_tbs (i : Fin 16) (st : SlotState) (s : State) : (setSlot i st s).tbs = s.tbs := rfl
@[simp] theorem setSlot_profile (i : Fin 16) (st : SlotState) (s : State) : (setSlot i st s).profile = s.profile := rfl
@[simp] theorem setSlot_fra (i : Fin 16) (st : SlotState) (s : State) : (setSlot i st s).fra = s.fra := rfl
@[simp] theorem setSlot_frb (i : Fin 16) (st : SlotState) (s : State) : (setSlot i st s).frb = s.frb := rfl
@[simp] theorem setSlot_stab (i : Fin 16) (st : SlotState) (s : State) : (setSlot i st s).stab = s.stab := rfl
@[simp] theorem setSlot_rpf (i : Fin 16) (st : SlotState) (s : State) : (setSlot i st s).rpf = s.rpf := rfl
@[simp] theorem setSlot_ftx (i : Fin 16) (st : SlotState) (s : State) : (setSlot i st s).ftx = s.ftx := rfl
@[simp] theorem setSlot_dst (i : Fin 16) (st : SlotState) (s : State) : (setSlot i st s).dst = s.dst := rfl
@[simp] theorem setSlot_trk (i : Fin 16) (st : SlotState) (s : State) : (setSlot i st s).trk = s.trk := rfl
@[simp] theorem setSlot_mre (i : Fin 16) (st : SlotState) (s : State) : (setSlot i st s).mre = s.mre := rfl
@[simp] theorem setSlot_alm (i : Fin 16) (st : SlotState) (s : State) : (setSlot i st s).alm = s.alm := rfl
@[simp] theorem setSlot_pending (i : Fin 16) (st : SlotState) (s : State) : (setSlot i st s).pending = s.pending := rfl
@[simp] theorem setSlot_dls_places (i : Fin 16) (st : SlotState) (s : State) :
    (setSlot i st s).dls.places =
      s.dls.places.set i { generation := s.dls.places[i].generation, state := st } := rfl
@[simp] theorem setSlot_dls_counters (i : Fin 16) (st : SlotState) (s : State) :
    (setSlot i st s).dls.counters =
      s.dls.counters := rfl

/-! ### leaveCandidates -/

@[simp] theorem leaveCandidates_inReset (i : Fin 16) (s : State) : (leaveCandidates i s).inReset = s.inReset := rfl
@[simp] theorem leaveCandidates_tbs (i : Fin 16) (s : State) : (leaveCandidates i s).tbs = s.tbs := rfl
@[simp] theorem leaveCandidates_profile (i : Fin 16) (s : State) : (leaveCandidates i s).profile = s.profile := rfl
@[simp] theorem leaveCandidates_fra (i : Fin 16) (s : State) : (leaveCandidates i s).fra = s.fra := rfl
@[simp] theorem leaveCandidates_frb (i : Fin 16) (s : State) : (leaveCandidates i s).frb = s.frb := rfl
@[simp] theorem leaveCandidates_stab (i : Fin 16) (s : State) : (leaveCandidates i s).stab = s.stab := rfl
@[simp] theorem leaveCandidates_rpf (i : Fin 16) (s : State) : (leaveCandidates i s).rpf = s.rpf := rfl
@[simp] theorem leaveCandidates_dls (i : Fin 16) (s : State) : (leaveCandidates i s).dls = s.dls := rfl
@[simp] theorem leaveCandidates_dst (i : Fin 16) (s : State) : (leaveCandidates i s).dst = s.dst := rfl
@[simp] theorem leaveCandidates_trk (i : Fin 16) (s : State) : (leaveCandidates i s).trk = s.trk := rfl
@[simp] theorem leaveCandidates_mre (i : Fin 16) (s : State) : (leaveCandidates i s).mre = s.mre := rfl
@[simp] theorem leaveCandidates_alm (i : Fin 16) (s : State) : (leaveCandidates i s).alm = s.alm := rfl
@[simp] theorem leaveCandidates_pending (i : Fin 16) (s : State) : (leaveCandidates i s).pending = s.pending := rfl
@[simp] theorem leaveCandidates_ftx_candidates (i : Fin 16) (s : State) :
    (leaveCandidates i s).ftx.candidates =
      s.ftx.candidates.filter (fun j => j != i) := rfl
@[simp] theorem leaveCandidates_ftx_params (i : Fin 16) (s : State) :
    (leaveCandidates i s).ftx.params =
      s.ftx.params := rfl
@[simp] theorem leaveCandidates_ftx_state (i : Fin 16) (s : State) :
    (leaveCandidates i s).ftx.state =
      s.ftx.state := rfl
@[simp] theorem leaveCandidates_ftx_keyLine (i : Fin 16) (s : State) :
    (leaveCandidates i s).ftx.keyLine =
      s.ftx.keyLine := rfl
@[simp] theorem leaveCandidates_ftx_enLine (i : Fin 16) (s : State) :
    (leaveCandidates i s).ftx.enLine =
      s.ftx.enLine := rfl
@[simp] theorem leaveCandidates_ftx_counters (i : Fin 16) (s : State) :
    (leaveCandidates i s).ftx.counters =
      s.ftx.counters := rfl

/-! ### joinCandidates -/

@[simp] theorem joinCandidates_inReset (i : Fin 16) (s : State) : (joinCandidates i s).inReset = s.inReset := rfl
@[simp] theorem joinCandidates_tbs (i : Fin 16) (s : State) : (joinCandidates i s).tbs = s.tbs := rfl
@[simp] theorem joinCandidates_profile (i : Fin 16) (s : State) : (joinCandidates i s).profile = s.profile := rfl
@[simp] theorem joinCandidates_fra (i : Fin 16) (s : State) : (joinCandidates i s).fra = s.fra := rfl
@[simp] theorem joinCandidates_frb (i : Fin 16) (s : State) : (joinCandidates i s).frb = s.frb := rfl
@[simp] theorem joinCandidates_stab (i : Fin 16) (s : State) : (joinCandidates i s).stab = s.stab := rfl
@[simp] theorem joinCandidates_rpf (i : Fin 16) (s : State) : (joinCandidates i s).rpf = s.rpf := rfl
@[simp] theorem joinCandidates_dls (i : Fin 16) (s : State) : (joinCandidates i s).dls = s.dls := rfl
@[simp] theorem joinCandidates_dst (i : Fin 16) (s : State) : (joinCandidates i s).dst = s.dst := rfl
@[simp] theorem joinCandidates_trk (i : Fin 16) (s : State) : (joinCandidates i s).trk = s.trk := rfl
@[simp] theorem joinCandidates_mre (i : Fin 16) (s : State) : (joinCandidates i s).mre = s.mre := rfl
@[simp] theorem joinCandidates_alm (i : Fin 16) (s : State) : (joinCandidates i s).alm = s.alm := rfl
@[simp] theorem joinCandidates_pending (i : Fin 16) (s : State) : (joinCandidates i s).pending = s.pending := rfl
@[simp] theorem joinCandidates_ftx_params (i : Fin 16) (s : State) :
    (joinCandidates i s).ftx.params =
      s.ftx.params := rfl
@[simp] theorem joinCandidates_ftx_state (i : Fin 16) (s : State) :
    (joinCandidates i s).ftx.state =
      s.ftx.state := rfl
@[simp] theorem joinCandidates_ftx_keyLine (i : Fin 16) (s : State) :
    (joinCandidates i s).ftx.keyLine =
      s.ftx.keyLine := rfl
@[simp] theorem joinCandidates_ftx_enLine (i : Fin 16) (s : State) :
    (joinCandidates i s).ftx.enLine =
      s.ftx.enLine := rfl
@[simp] theorem joinCandidates_ftx_counters (i : Fin 16) (s : State) :
    (joinCandidates i s).ftx.counters =
      s.ftx.counters := rfl

/-! ### goIdle -/

@[simp] theorem goIdle_inReset (s : State) : (goIdle s).inReset = s.inReset := rfl
@[simp] theorem goIdle_tbs (s : State) : (goIdle s).tbs = s.tbs := rfl
@[simp] theorem goIdle_profile (s : State) : (goIdle s).profile = s.profile := rfl
@[simp] theorem goIdle_fra (s : State) : (goIdle s).fra = s.fra := rfl
@[simp] theorem goIdle_frb (s : State) : (goIdle s).frb = s.frb := rfl
@[simp] theorem goIdle_stab (s : State) : (goIdle s).stab = s.stab := rfl
@[simp] theorem goIdle_rpf (s : State) : (goIdle s).rpf = s.rpf := rfl
@[simp] theorem goIdle_dls (s : State) : (goIdle s).dls = s.dls := rfl
@[simp] theorem goIdle_dst (s : State) : (goIdle s).dst = s.dst := rfl
@[simp] theorem goIdle_trk (s : State) : (goIdle s).trk = s.trk := rfl
@[simp] theorem goIdle_mre (s : State) : (goIdle s).mre = s.mre := rfl
@[simp] theorem goIdle_alm (s : State) : (goIdle s).alm = s.alm := rfl
@[simp] theorem goIdle_pending (s : State) : (goIdle s).pending = s.pending := rfl
@[simp] theorem goIdle_ftx_state (s : State) : (goIdle s).ftx.state = .idle := rfl
@[simp] theorem goIdle_ftx_keyLine (s : State) : (goIdle s).ftx.keyLine = false := rfl
@[simp] theorem goIdle_ftx_enLine (s : State) : (goIdle s).ftx.enLine = false := rfl
@[simp] theorem goIdle_ftx_params (s : State) : (goIdle s).ftx.params = s.ftx.params := rfl
@[simp] theorem goIdle_ftx_candidates (s : State) : (goIdle s).ftx.candidates = s.ftx.candidates := rfl
@[simp] theorem goIdle_ftx_counters (s : State) : (goIdle s).ftx.counters = s.ftx.counters := rfl

/-! ### startTest -/

@[simp] theorem startTest_inReset (d : PartTime) (s : State) : (startTest d s).inReset = s.inReset := rfl
@[simp] theorem startTest_tbs (d : PartTime) (s : State) : (startTest d s).tbs = s.tbs := rfl
@[simp] theorem startTest_profile (d : PartTime) (s : State) : (startTest d s).profile = s.profile := rfl
@[simp] theorem startTest_fra (d : PartTime) (s : State) : (startTest d s).fra = s.fra := rfl
@[simp] theorem startTest_frb (d : PartTime) (s : State) : (startTest d s).frb = s.frb := rfl
@[simp] theorem startTest_stab (d : PartTime) (s : State) : (startTest d s).stab = s.stab := rfl
@[simp] theorem startTest_rpf (d : PartTime) (s : State) : (startTest d s).rpf = s.rpf := rfl
@[simp] theorem startTest_dls (d : PartTime) (s : State) : (startTest d s).dls = s.dls := rfl
@[simp] theorem startTest_dst (d : PartTime) (s : State) : (startTest d s).dst = s.dst := rfl
@[simp] theorem startTest_trk (d : PartTime) (s : State) : (startTest d s).trk = s.trk := rfl
@[simp] theorem startTest_mre (d : PartTime) (s : State) : (startTest d s).mre = s.mre := rfl
@[simp] theorem startTest_alm (d : PartTime) (s : State) : (startTest d s).alm = s.alm := rfl
@[simp] theorem startTest_pending (d : PartTime) (s : State) : (startTest d s).pending = s.pending := rfl
@[simp] theorem startTest_ftx_state (d : PartTime) (s : State) :
    (startTest d s).ftx.state =
      .testing d := rfl
@[simp] theorem startTest_ftx_keyLine (d : PartTime) (s : State) : (startTest d s).ftx.keyLine = true := rfl
@[simp] theorem startTest_ftx_enLine (d : PartTime) (s : State) : (startTest d s).ftx.enLine = true := rfl
@[simp] theorem startTest_ftx_params (d : PartTime) (s : State) :
    (startTest d s).ftx.params =
      s.ftx.params := rfl
@[simp] theorem startTest_ftx_candidates (d : PartTime) (s : State) :
    (startTest d s).ftx.candidates =
      s.ftx.candidates := rfl
@[simp] theorem startTest_ftx_counters (d : PartTime) (s : State) :
    (startTest d s).ftx.counters =
      s.ftx.counters := rfl

/-! ### mapRecord -/

@[simp] theorem mapRecord_inReset (id : StationId) (q : Byte) (f : Record → Record) (s : State) : (mapRecord id q f s).inReset = s.inReset := rfl
@[simp] theorem mapRecord_tbs (id : StationId) (q : Byte) (f : Record → Record) (s : State) : (mapRecord id q f s).tbs = s.tbs := rfl
@[simp] theorem mapRecord_profile (id : StationId) (q : Byte) (f : Record → Record) (s : State) : (mapRecord id q f s).profile = s.profile := rfl
@[simp] theorem mapRecord_fra (id : StationId) (q : Byte) (f : Record → Record) (s : State) : (mapRecord id q f s).fra = s.fra := rfl
@[simp] theorem mapRecord_frb (id : StationId) (q : Byte) (f : Record → Record) (s : State) : (mapRecord id q f s).frb = s.frb := rfl
@[simp] theorem mapRecord_stab (id : StationId) (q : Byte) (f : Record → Record) (s : State) : (mapRecord id q f s).stab = s.stab := rfl
@[simp] theorem mapRecord_dls (id : StationId) (q : Byte) (f : Record → Record) (s : State) : (mapRecord id q f s).dls = s.dls := rfl
@[simp] theorem mapRecord_ftx (id : StationId) (q : Byte) (f : Record → Record) (s : State) : (mapRecord id q f s).ftx = s.ftx := rfl
@[simp] theorem mapRecord_dst (id : StationId) (q : Byte) (f : Record → Record) (s : State) : (mapRecord id q f s).dst = s.dst := rfl
@[simp] theorem mapRecord_trk (id : StationId) (q : Byte) (f : Record → Record) (s : State) : (mapRecord id q f s).trk = s.trk := rfl
@[simp] theorem mapRecord_mre (id : StationId) (q : Byte) (f : Record → Record) (s : State) : (mapRecord id q f s).mre = s.mre := rfl
@[simp] theorem mapRecord_alm (id : StationId) (q : Byte) (f : Record → Record) (s : State) : (mapRecord id q f s).alm = s.alm := rfl
@[simp] theorem mapRecord_pending (id : StationId) (q : Byte) (f : Record → Record) (s : State) : (mapRecord id q f s).pending = s.pending := rfl
@[simp] theorem mapRecord_rpf_counters (id : StationId) (q : Byte) (f : Record → Record) (s : State) :
    (mapRecord id q f s).rpf.counters =
      s.rpf.counters := rfl
@[simp] theorem mapRecord_rpf_records (id : StationId) (q : Byte) (f : Record → Record) (s : State) :
    (mapRecord id q f s).rpf.records =
      s.rpf.records.map (fun r => if r.isOf id q then f r else r) := rfl

/-! ### dropRecord -/

@[simp] theorem dropRecord_inReset (id : StationId) (q : Byte) (s : State) : (dropRecord id q s).inReset = s.inReset := rfl
@[simp] theorem dropRecord_tbs (id : StationId) (q : Byte) (s : State) : (dropRecord id q s).tbs = s.tbs := rfl
@[simp] theorem dropRecord_profile (id : StationId) (q : Byte) (s : State) : (dropRecord id q s).profile = s.profile := rfl
@[simp] theorem dropRecord_fra (id : StationId) (q : Byte) (s : State) : (dropRecord id q s).fra = s.fra := rfl
@[simp] theorem dropRecord_frb (id : StationId) (q : Byte) (s : State) : (dropRecord id q s).frb = s.frb := rfl
@[simp] theorem dropRecord_stab (id : StationId) (q : Byte) (s : State) : (dropRecord id q s).stab = s.stab := rfl
@[simp] theorem dropRecord_dls (id : StationId) (q : Byte) (s : State) : (dropRecord id q s).dls = s.dls := rfl
@[simp] theorem dropRecord_ftx (id : StationId) (q : Byte) (s : State) : (dropRecord id q s).ftx = s.ftx := rfl
@[simp] theorem dropRecord_dst (id : StationId) (q : Byte) (s : State) : (dropRecord id q s).dst = s.dst := rfl
@[simp] theorem dropRecord_trk (id : StationId) (q : Byte) (s : State) : (dropRecord id q s).trk = s.trk := rfl
@[simp] theorem dropRecord_mre (id : StationId) (q : Byte) (s : State) : (dropRecord id q s).mre = s.mre := rfl
@[simp] theorem dropRecord_alm (id : StationId) (q : Byte) (s : State) : (dropRecord id q s).alm = s.alm := rfl
@[simp] theorem dropRecord_pending (id : StationId) (q : Byte) (s : State) : (dropRecord id q s).pending = s.pending := rfl
@[simp] theorem dropRecord_rpf_counters (id : StationId) (q : Byte) (s : State) :
    (dropRecord id q s).rpf.counters =
      s.rpf.counters := rfl
@[simp] theorem dropRecord_rpf_records (id : StationId) (q : Byte) (s : State) :
    (dropRecord id q s).rpf.records =
      s.rpf.records.filter (fun r => !r.isOf id q) := rfl

/-! ### addRecord -/

@[simp] theorem addRecord_inReset (r : Record) (s : State) : (addRecord r s).inReset = s.inReset := rfl
@[simp] theorem addRecord_tbs (r : Record) (s : State) : (addRecord r s).tbs = s.tbs := rfl
@[simp] theorem addRecord_profile (r : Record) (s : State) : (addRecord r s).profile = s.profile := rfl
@[simp] theorem addRecord_fra (r : Record) (s : State) : (addRecord r s).fra = s.fra := rfl
@[simp] theorem addRecord_frb (r : Record) (s : State) : (addRecord r s).frb = s.frb := rfl
@[simp] theorem addRecord_stab (r : Record) (s : State) : (addRecord r s).stab = s.stab := rfl
@[simp] theorem addRecord_dls (r : Record) (s : State) : (addRecord r s).dls = s.dls := rfl
@[simp] theorem addRecord_ftx (r : Record) (s : State) : (addRecord r s).ftx = s.ftx := rfl
@[simp] theorem addRecord_dst (r : Record) (s : State) : (addRecord r s).dst = s.dst := rfl
@[simp] theorem addRecord_trk (r : Record) (s : State) : (addRecord r s).trk = s.trk := rfl
@[simp] theorem addRecord_mre (r : Record) (s : State) : (addRecord r s).mre = s.mre := rfl
@[simp] theorem addRecord_alm (r : Record) (s : State) : (addRecord r s).alm = s.alm := rfl
@[simp] theorem addRecord_pending (r : Record) (s : State) : (addRecord r s).pending = s.pending := rfl
@[simp] theorem addRecord_rpf_counters (r : Record) (s : State) :
    (addRecord r s).rpf.counters =
      s.rpf.counters := rfl
@[simp] theorem addRecord_rpf_records (r : Record) (s : State) :
    (addRecord r s).rpf.records =
      s.rpf.records ++ [r] := rfl

/-! ### streamClose -/

@[simp] theorem streamClose_inReset (s : State) : (streamClose s).inReset = s.inReset := rfl
@[simp] theorem streamClose_tbs (s : State) : (streamClose s).tbs = s.tbs := rfl
@[simp] theorem streamClose_profile (s : State) : (streamClose s).profile = s.profile := rfl
@[simp] theorem streamClose_fra (s : State) : (streamClose s).fra = s.fra := rfl
@[simp] theorem streamClose_frb (s : State) : (streamClose s).frb = s.frb := rfl
@[simp] theorem streamClose_stab (s : State) : (streamClose s).stab = s.stab := rfl
@[simp] theorem streamClose_rpf (s : State) : (streamClose s).rpf = s.rpf := rfl
@[simp] theorem streamClose_dls (s : State) : (streamClose s).dls = s.dls := rfl
@[simp] theorem streamClose_ftx (s : State) : (streamClose s).ftx = s.ftx := rfl
@[simp] theorem streamClose_trk (s : State) : (streamClose s).trk = s.trk := rfl
@[simp] theorem streamClose_mre (s : State) : (streamClose s).mre = s.mre := rfl
@[simp] theorem streamClose_alm (s : State) : (streamClose s).alm = s.alm := rfl
@[simp] theorem streamClose_pending (s : State) : (streamClose s).pending = s.pending := rfl
@[simp] theorem streamClose_dst_waiting (s : State) :
    (streamClose s).dst.waiting =
      s.dst.window.map SentItem.item ++ s.dst.waiting := rfl
@[simp] theorem streamClose_dst_window (s : State) : (streamClose s).dst.window = [] := rfl
@[simp] theorem streamClose_dst_timer (s : State) : (streamClose s).dst.timer = none := rfl
@[simp] theorem streamClose_dst_state (s : State) : (streamClose s).dst.state = .running := rfl
@[simp] theorem streamClose_dst_timeoutCount (s : State) : (streamClose s).dst.timeoutCount = 0 := rfl
@[simp] theorem streamClose_dst_nextSequence (s : State) :
    (streamClose s).dst.nextSequence =
      s.dst.nextSequence := rfl
@[simp] theorem streamClose_dst_ackTimeoutMs (s : State) :
    (streamClose s).dst.ackTimeoutMs =
      s.dst.ackTimeoutMs := rfl
@[simp] theorem streamClose_dst_stallLimit (s : State) :
    (streamClose s).dst.stallLimit =
      s.dst.stallLimit := rfl
@[simp] theorem streamClose_dst_counters (s : State) : (streamClose s).dst.counters = s.dst.counters := rfl

/-! ### clearAllCauses -/

@[simp] theorem clearAllCauses_inReset (s : State) : (clearAllCauses s).inReset = s.inReset := rfl
@[simp] theorem clearAllCauses_tbs (s : State) : (clearAllCauses s).tbs = s.tbs := rfl
@[simp] theorem clearAllCauses_profile (s : State) : (clearAllCauses s).profile = s.profile := rfl
@[simp] theorem clearAllCauses_fra (s : State) : (clearAllCauses s).fra = s.fra := rfl
@[simp] theorem clearAllCauses_frb (s : State) : (clearAllCauses s).frb = s.frb := rfl
@[simp] theorem clearAllCauses_stab (s : State) : (clearAllCauses s).stab = s.stab := rfl
@[simp] theorem clearAllCauses_rpf (s : State) : (clearAllCauses s).rpf = s.rpf := rfl
@[simp] theorem clearAllCauses_dls (s : State) : (clearAllCauses s).dls = s.dls := rfl
@[simp] theorem clearAllCauses_ftx (s : State) : (clearAllCauses s).ftx = s.ftx := rfl
@[simp] theorem clearAllCauses_dst (s : State) : (clearAllCauses s).dst = s.dst := rfl
@[simp] theorem clearAllCauses_mre (s : State) : (clearAllCauses s).mre = s.mre := rfl
@[simp] theorem clearAllCauses_pending (s : State) : (clearAllCauses s).pending = s.pending := rfl
@[simp] theorem clearAllCauses_trk_notices (s : State) :
    (clearAllCauses s).trk.notices =
      Vector.replicate 8 false := rfl

/-! ### pushResponse -/

@[simp] theorem pushResponse_inReset (r : Response) (b : Bool) (s : State) : (pushResponse r b s).inReset = s.inReset := rfl
@[simp] theorem pushResponse_tbs (r : Response) (b : Bool) (s : State) : (pushResponse r b s).tbs = s.tbs := rfl
@[simp] theorem pushResponse_profile (r : Response) (b : Bool) (s : State) : (pushResponse r b s).profile = s.profile := rfl
@[simp] theorem pushResponse_fra (r : Response) (b : Bool) (s : State) : (pushResponse r b s).fra = s.fra := rfl
@[simp] theorem pushResponse_frb (r : Response) (b : Bool) (s : State) : (pushResponse r b s).frb = s.frb := rfl
@[simp] theorem pushResponse_stab (r : Response) (b : Bool) (s : State) : (pushResponse r b s).stab = s.stab := rfl
@[simp] theorem pushResponse_rpf (r : Response) (b : Bool) (s : State) : (pushResponse r b s).rpf = s.rpf := rfl
@[simp] theorem pushResponse_dls (r : Response) (b : Bool) (s : State) : (pushResponse r b s).dls = s.dls := rfl
@[simp] theorem pushResponse_ftx (r : Response) (b : Bool) (s : State) : (pushResponse r b s).ftx = s.ftx := rfl
@[simp] theorem pushResponse_dst (r : Response) (b : Bool) (s : State) : (pushResponse r b s).dst = s.dst := rfl
@[simp] theorem pushResponse_mre (r : Response) (b : Bool) (s : State) : (pushResponse r b s).mre = s.mre := rfl
@[simp] theorem pushResponse_alm (r : Response) (b : Bool) (s : State) : (pushResponse r b s).alm = s.alm := rfl
@[simp] theorem pushResponse_pending (r : Response) (b : Bool) (s : State) : (pushResponse r b s).pending = s.pending := rfl
@[simp] theorem pushResponse_trk_responses (r : Response) (b : Bool) (s : State) :
    (pushResponse r b s).trk.responses =
      s.trk.responses ++ [{ response := r, concludes := b }] := rfl
@[simp] theorem pushResponse_trk_sampler (r : Response) (b : Bool) (s : State) :
    (pushResponse r b s).trk.sampler =
      s.trk.sampler := rfl
@[simp] theorem pushResponse_trk_assembler (r : Response) (b : Bool) (s : State) :
    (pushResponse r b s).trk.assembler =
      s.trk.assembler := rfl
@[simp] theorem pushResponse_trk_held (r : Response) (b : Bool) (s : State) :
    (pushResponse r b s).trk.held =
      s.trk.held := rfl
@[simp] theorem pushResponse_trk_cache (r : Response) (b : Bool) (s : State) :
    (pushResponse r b s).trk.cache =
      s.trk.cache := rfl
@[simp] theorem pushResponse_trk_session (r : Response) (b : Bool) (s : State) :
    (pushResponse r b s).trk.session =
      s.trk.session := rfl
@[simp] theorem pushResponse_trk_sessionIdleS (r : Response) (b : Bool) (s : State) :
    (pushResponse r b s).trk.sessionIdleS =
      s.trk.sessionIdleS := rfl
@[simp] theorem pushResponse_trk_streamWait (r : Response) (b : Bool) (s : State) :
    (pushResponse r b s).trk.streamWait =
      s.trk.streamWait := rfl
@[simp] theorem pushResponse_trk_notices (r : Response) (b : Bool) (s : State) :
    (pushResponse r b s).trk.notices =
      s.trk.notices := rfl
@[simp] theorem pushResponse_trk_line (r : Response) (b : Bool) (s : State) :
    (pushResponse r b s).trk.line =
      s.trk.line := rfl
@[simp] theorem pushResponse_trk_counters (r : Response) (b : Bool) (s : State) :
    (pushResponse r b s).trk.counters =
      s.trk.counters := rfl

/-! ### putOnLine -/

@[simp] theorem putOnLine_inReset (f : FrameContent) (s : State) : (putOnLine f s).inReset = s.inReset := rfl
@[simp] theorem putOnLine_tbs (f : FrameContent) (s : State) : (putOnLine f s).tbs = s.tbs := rfl
@[simp] theorem putOnLine_profile (f : FrameContent) (s : State) : (putOnLine f s).profile = s.profile := rfl
@[simp] theorem putOnLine_fra (f : FrameContent) (s : State) : (putOnLine f s).fra = s.fra := rfl
@[simp] theorem putOnLine_frb (f : FrameContent) (s : State) : (putOnLine f s).frb = s.frb := rfl
@[simp] theorem putOnLine_stab (f : FrameContent) (s : State) : (putOnLine f s).stab = s.stab := rfl
@[simp] theorem putOnLine_rpf (f : FrameContent) (s : State) : (putOnLine f s).rpf = s.rpf := rfl
@[simp] theorem putOnLine_dls (f : FrameContent) (s : State) : (putOnLine f s).dls = s.dls := rfl
@[simp] theorem putOnLine_ftx (f : FrameContent) (s : State) : (putOnLine f s).ftx = s.ftx := rfl
@[simp] theorem putOnLine_dst (f : FrameContent) (s : State) : (putOnLine f s).dst = s.dst := rfl
@[simp] theorem putOnLine_mre (f : FrameContent) (s : State) : (putOnLine f s).mre = s.mre := rfl
@[simp] theorem putOnLine_alm (f : FrameContent) (s : State) : (putOnLine f s).alm = s.alm := rfl
@[simp] theorem putOnLine_pending (f : FrameContent) (s : State) : (putOnLine f s).pending = s.pending := rfl
@[simp] theorem putOnLine_trk_line (f : FrameContent) (s : State) :
    (putOnLine f s).trk.line =
      some { content := f, aborted := false } := rfl
@[simp] theorem putOnLine_trk_sampler (f : FrameContent) (s : State) :
    (putOnLine f s).trk.sampler =
      s.trk.sampler := rfl
@[simp] theorem putOnLine_trk_assembler (f : FrameContent) (s : State) :
    (putOnLine f s).trk.assembler =
      s.trk.assembler := rfl
@[simp] theorem putOnLine_trk_held (f : FrameContent) (s : State) :
    (putOnLine f s).trk.held =
      s.trk.held := rfl
@[simp] theorem putOnLine_trk_responses (f : FrameContent) (s : State) :
    (putOnLine f s).trk.responses =
      s.trk.responses := rfl
@[simp] theorem putOnLine_trk_cache (f : FrameContent) (s : State) :
    (putOnLine f s).trk.cache =
      s.trk.cache := rfl
@[simp] theorem putOnLine_trk_session (f : FrameContent) (s : State) :
    (putOnLine f s).trk.session =
      s.trk.session := rfl
@[simp] theorem putOnLine_trk_sessionIdleS (f : FrameContent) (s : State) :
    (putOnLine f s).trk.sessionIdleS =
      s.trk.sessionIdleS := rfl
@[simp] theorem putOnLine_trk_streamWait (f : FrameContent) (s : State) :
    (putOnLine f s).trk.streamWait =
      s.trk.streamWait := rfl
@[simp] theorem putOnLine_trk_notices (f : FrameContent) (s : State) :
    (putOnLine f s).trk.notices =
      s.trk.notices := rfl
@[simp] theorem putOnLine_trk_counters (f : FrameContent) (s : State) :
    (putOnLine f s).trk.counters =
      s.trk.counters := rfl

/-! ### setSampler -/

@[simp] theorem setSampler_inReset (x : TrunkSampler) (s : State) : (setSampler x s).inReset = s.inReset := rfl
@[simp] theorem setSampler_tbs (x : TrunkSampler) (s : State) : (setSampler x s).tbs = s.tbs := rfl
@[simp] theorem setSampler_profile (x : TrunkSampler) (s : State) : (setSampler x s).profile = s.profile := rfl
@[simp] theorem setSampler_fra (x : TrunkSampler) (s : State) : (setSampler x s).fra = s.fra := rfl
@[simp] theorem setSampler_frb (x : TrunkSampler) (s : State) : (setSampler x s).frb = s.frb := rfl
@[simp] theorem setSampler_stab (x : TrunkSampler) (s : State) : (setSampler x s).stab = s.stab := rfl
@[simp] theorem setSampler_rpf (x : TrunkSampler) (s : State) : (setSampler x s).rpf = s.rpf := rfl
@[simp] theorem setSampler_dls (x : TrunkSampler) (s : State) : (setSampler x s).dls = s.dls := rfl
@[simp] theorem setSampler_ftx (x : TrunkSampler) (s : State) : (setSampler x s).ftx = s.ftx := rfl
@[simp] theorem setSampler_dst (x : TrunkSampler) (s : State) : (setSampler x s).dst = s.dst := rfl
@[simp] theorem setSampler_mre (x : TrunkSampler) (s : State) : (setSampler x s).mre = s.mre := rfl
@[simp] theorem setSampler_alm (x : TrunkSampler) (s : State) : (setSampler x s).alm = s.alm := rfl
@[simp] theorem setSampler_pending (x : TrunkSampler) (s : State) : (setSampler x s).pending = s.pending := rfl
@[simp] theorem setSampler_trk_sampler (x : TrunkSampler) (s : State) :
    (setSampler x s).trk.sampler =
      x := rfl
@[simp] theorem setSampler_trk_assembler (x : TrunkSampler) (s : State) :
    (setSampler x s).trk.assembler =
      s.trk.assembler := rfl
@[simp] theorem setSampler_trk_held (x : TrunkSampler) (s : State) :
    (setSampler x s).trk.held =
      s.trk.held := rfl
@[simp] theorem setSampler_trk_responses (x : TrunkSampler) (s : State) :
    (setSampler x s).trk.responses =
      s.trk.responses := rfl
@[simp] theorem setSampler_trk_cache (x : TrunkSampler) (s : State) :
    (setSampler x s).trk.cache =
      s.trk.cache := rfl
@[simp] theorem setSampler_trk_session (x : TrunkSampler) (s : State) :
    (setSampler x s).trk.session =
      s.trk.session := rfl
@[simp] theorem setSampler_trk_sessionIdleS (x : TrunkSampler) (s : State) :
    (setSampler x s).trk.sessionIdleS =
      s.trk.sessionIdleS := rfl
@[simp] theorem setSampler_trk_streamWait (x : TrunkSampler) (s : State) :
    (setSampler x s).trk.streamWait =
      s.trk.streamWait := rfl
@[simp] theorem setSampler_trk_notices (x : TrunkSampler) (s : State) :
    (setSampler x s).trk.notices =
      s.trk.notices := rfl
@[simp] theorem setSampler_trk_line (x : TrunkSampler) (s : State) :
    (setSampler x s).trk.line =
      s.trk.line := rfl
@[simp] theorem setSampler_trk_counters (x : TrunkSampler) (s : State) :
    (setSampler x s).trk.counters =
      s.trk.counters := rfl
@[simp] theorem setSampler_setSampler (x y : TrunkSampler) (s : State) :
    setSampler x (setSampler y s) = setSampler x s := rfl

/-! ### newContent -/

@[simp] theorem newContent_inReset (s : State) : (newContent s).inReset = s.inReset := rfl
@[simp] theorem newContent_tbs (s : State) : (newContent s).tbs = s.tbs := rfl
@[simp] theorem newContent_profile (s : State) : (newContent s).profile = s.profile := rfl
@[simp] theorem newContent_fra (s : State) : (newContent s).fra = s.fra := rfl
@[simp] theorem newContent_frb (s : State) : (newContent s).frb = s.frb := rfl
@[simp] theorem newContent_stab (s : State) : (newContent s).stab = s.stab := rfl
@[simp] theorem newContent_rpf (s : State) : (newContent s).rpf = s.rpf := rfl
@[simp] theorem newContent_dls (s : State) : (newContent s).dls = s.dls := rfl
@[simp] theorem newContent_ftx (s : State) : (newContent s).ftx = s.ftx := rfl
@[simp] theorem newContent_dst (s : State) : (newContent s).dst = s.dst := rfl
@[simp] theorem newContent_mre (s : State) : (newContent s).mre = s.mre := rfl
@[simp] theorem newContent_alm (s : State) : (newContent s).alm = s.alm := rfl
@[simp] theorem newContent_pending (s : State) : (newContent s).pending = s.pending := rfl
@[simp] theorem newContent_trk_sampler (s : State) :
    (newContent s).trk.sampler =
      s.trk.sampler := rfl
@[simp] theorem newContent_trk_assembler (s : State) :
    (newContent s).trk.assembler =
      .collecting [] false := rfl
@[simp] theorem newContent_trk_held (s : State) : (newContent s).trk.held = s.trk.held := rfl
@[simp] theorem newContent_trk_responses (s : State) : (newContent s).trk.responses = s.trk.responses := rfl
@[simp] theorem newContent_trk_cache (s : State) : (newContent s).trk.cache = s.trk.cache := rfl
@[simp] theorem newContent_trk_session (s : State) : (newContent s).trk.session = s.trk.session := rfl
@[simp] theorem newContent_trk_sessionIdleS (s : State) :
    (newContent s).trk.sessionIdleS =
      s.trk.sessionIdleS := rfl
@[simp] theorem newContent_trk_streamWait (s : State) :
    (newContent s).trk.streamWait =
      s.trk.streamWait := rfl
@[simp] theorem newContent_trk_notices (s : State) : (newContent s).trk.notices = s.trk.notices := rfl
@[simp] theorem newContent_trk_line (s : State) : (newContent s).trk.line = s.trk.line := rfl
@[simp] theorem newContent_trk_counters (s : State) : (newContent s).trk.counters = s.trk.counters := rfl

/-! ### discardKind -/

@[simp] theorem discardKind_inReset (s : State) : (discardKind s).inReset = s.inReset := rfl
@[simp] theorem discardKind_tbs (s : State) : (discardKind s).tbs = s.tbs := rfl
@[simp] theorem discardKind_profile (s : State) : (discardKind s).profile = s.profile := rfl
@[simp] theorem discardKind_fra (s : State) : (discardKind s).fra = s.fra := rfl
@[simp] theorem discardKind_frb (s : State) : (discardKind s).frb = s.frb := rfl
@[simp] theorem discardKind_stab (s : State) : (discardKind s).stab = s.stab := rfl
@[simp] theorem discardKind_rpf (s : State) : (discardKind s).rpf = s.rpf := rfl
@[simp] theorem discardKind_dls (s : State) : (discardKind s).dls = s.dls := rfl
@[simp] theorem discardKind_ftx (s : State) : (discardKind s).ftx = s.ftx := rfl
@[simp] theorem discardKind_dst (s : State) : (discardKind s).dst = s.dst := rfl
@[simp] theorem discardKind_mre (s : State) : (discardKind s).mre = s.mre := rfl
@[simp] theorem discardKind_alm (s : State) : (discardKind s).alm = s.alm := rfl
@[simp] theorem discardKind_pending (s : State) : (discardKind s).pending = s.pending := rfl

/-! ### holdInReset -/

@[simp] theorem holdInReset_profile (s : State) : (holdInReset s).profile = s.profile := rfl
@[simp] theorem holdInReset_stab (s : State) : (holdInReset s).stab = s.stab := rfl
@[simp] theorem holdInReset_rpf (s : State) : (holdInReset s).rpf = s.rpf := rfl
@[simp] theorem holdInReset_dls (s : State) : (holdInReset s).dls = s.dls := rfl
@[simp] theorem holdInReset_dst (s : State) : (holdInReset s).dst = s.dst := rfl
@[simp] theorem holdInReset_mre (s : State) : (holdInReset s).mre = s.mre := rfl
@[simp] theorem holdInReset_pending (s : State) : (holdInReset s).pending = s.pending := rfl
@[simp] theorem holdInReset_inReset (s : State) : (holdInReset s).inReset = true := rfl

/-! ### stopRefclk -/

@[simp] theorem stopRefclk_inReset (s : State) : (stopRefclk s).inReset = s.inReset := rfl
@[simp] theorem stopRefclk_profile (s : State) : (stopRefclk s).profile = s.profile := rfl
@[simp] theorem stopRefclk_fra (s : State) : (stopRefclk s).fra = s.fra := rfl
@[simp] theorem stopRefclk_frb (s : State) : (stopRefclk s).frb = s.frb := rfl
@[simp] theorem stopRefclk_stab (s : State) : (stopRefclk s).stab = s.stab := rfl
@[simp] theorem stopRefclk_rpf (s : State) : (stopRefclk s).rpf = s.rpf := rfl
@[simp] theorem stopRefclk_dls (s : State) : (stopRefclk s).dls = s.dls := rfl
@[simp] theorem stopRefclk_ftx (s : State) : (stopRefclk s).ftx = s.ftx := rfl
@[simp] theorem stopRefclk_dst (s : State) : (stopRefclk s).dst = s.dst := rfl
@[simp] theorem stopRefclk_trk (s : State) : (stopRefclk s).trk = s.trk := rfl
@[simp] theorem stopRefclk_mre (s : State) : (stopRefclk s).mre = s.mre := rfl
@[simp] theorem stopRefclk_alm (s : State) : (stopRefclk s).alm = s.alm := rfl
@[simp] theorem stopRefclk_pending (s : State) : (stopRefclk s).pending = s.pending := rfl
@[simp] theorem stopRefclk_tbs (s : State) : (stopRefclk s).tbs = { s.tbs with refclkRunning := false } := rfl

/-! ### setReceiver, setRxState, countRx, toHunt -/

@[simp] theorem setReceiver_inReset (ch : Channel) (r : Receiver) (s : State) : (setReceiver ch r s).inReset = s.inReset := by cases ch <;> rfl
@[simp] theorem setReceiver_tbs (ch : Channel) (r : Receiver) (s : State) : (setReceiver ch r s).tbs = s.tbs := by cases ch <;> rfl
@[simp] theorem setReceiver_profile (ch : Channel) (r : Receiver) (s : State) : (setReceiver ch r s).profile = s.profile := by cases ch <;> rfl
@[simp] theorem setReceiver_stab (ch : Channel) (r : Receiver) (s : State) : (setReceiver ch r s).stab = s.stab := by cases ch <;> rfl
@[simp] theorem setReceiver_rpf (ch : Channel) (r : Receiver) (s : State) : (setReceiver ch r s).rpf = s.rpf := by cases ch <;> rfl
@[simp] theorem setReceiver_dls (ch : Channel) (r : Receiver) (s : State) : (setReceiver ch r s).dls = s.dls := by cases ch <;> rfl
@[simp] theorem setReceiver_ftx (ch : Channel) (r : Receiver) (s : State) : (setReceiver ch r s).ftx = s.ftx := by cases ch <;> rfl
@[simp] theorem setReceiver_dst (ch : Channel) (r : Receiver) (s : State) : (setReceiver ch r s).dst = s.dst := by cases ch <;> rfl
@[simp] theorem setReceiver_trk (ch : Channel) (r : Receiver) (s : State) : (setReceiver ch r s).trk = s.trk := by cases ch <;> rfl
@[simp] theorem setReceiver_mre (ch : Channel) (r : Receiver) (s : State) : (setReceiver ch r s).mre = s.mre := by cases ch <;> rfl
@[simp] theorem setReceiver_alm (ch : Channel) (r : Receiver) (s : State) : (setReceiver ch r s).alm = s.alm := by cases ch <;> rfl
@[simp] theorem setReceiver_pending (ch : Channel) (r : Receiver) (s : State) : (setReceiver ch r s).pending = s.pending := by cases ch <;> rfl

@[simp] theorem setRxState_inReset (ch : Channel) (st : RxState) (s : State) : (setRxState ch st s).inReset = s.inReset := by cases ch <;> rfl
@[simp] theorem setRxState_tbs (ch : Channel) (st : RxState) (s : State) : (setRxState ch st s).tbs = s.tbs := by cases ch <;> rfl
@[simp] theorem setRxState_profile (ch : Channel) (st : RxState) (s : State) : (setRxState ch st s).profile = s.profile := by cases ch <;> rfl
@[simp] theorem setRxState_stab (ch : Channel) (st : RxState) (s : State) : (setRxState ch st s).stab = s.stab := by cases ch <;> rfl
@[simp] theorem setRxState_rpf (ch : Channel) (st : RxState) (s : State) : (setRxState ch st s).rpf = s.rpf := by cases ch <;> rfl
@[simp] theorem setRxState_dls (ch : Channel) (st : RxState) (s : State) : (setRxState ch st s).dls = s.dls := by cases ch <;> rfl
@[simp] theorem setRxState_ftx (ch : Channel) (st : RxState) (s : State) : (setRxState ch st s).ftx = s.ftx := by cases ch <;> rfl
@[simp] theorem setRxState_dst (ch : Channel) (st : RxState) (s : State) : (setRxState ch st s).dst = s.dst := by cases ch <;> rfl
@[simp] theorem setRxState_trk (ch : Channel) (st : RxState) (s : State) : (setRxState ch st s).trk = s.trk := by cases ch <;> rfl
@[simp] theorem setRxState_mre (ch : Channel) (st : RxState) (s : State) : (setRxState ch st s).mre = s.mre := by cases ch <;> rfl
@[simp] theorem setRxState_alm (ch : Channel) (st : RxState) (s : State) : (setRxState ch st s).alm = s.alm := by cases ch <;> rfl
@[simp] theorem setRxState_pending (ch : Channel) (st : RxState) (s : State) : (setRxState ch st s).pending = s.pending := by cases ch <;> rfl

@[simp] theorem countRx_inReset (ch : Channel) (f : RxCounters → RxCounters) (s : State) : (countRx ch f s).inReset = s.inReset := by cases ch <;> rfl
@[simp] theorem countRx_tbs (ch : Channel) (f : RxCounters → RxCounters) (s : State) : (countRx ch f s).tbs = s.tbs := by cases ch <;> rfl
@[simp] theorem countRx_profile (ch : Channel) (f : RxCounters → RxCounters) (s : State) : (countRx ch f s).profile = s.profile := by cases ch <;> rfl
@[simp] theorem countRx_stab (ch : Channel) (f : RxCounters → RxCounters) (s : State) : (countRx ch f s).stab = s.stab := by cases ch <;> rfl
@[simp] theorem countRx_rpf (ch : Channel) (f : RxCounters → RxCounters) (s : State) : (countRx ch f s).rpf = s.rpf := by cases ch <;> rfl
@[simp] theorem countRx_dls (ch : Channel) (f : RxCounters → RxCounters) (s : State) : (countRx ch f s).dls = s.dls := by cases ch <;> rfl
@[simp] theorem countRx_ftx (ch : Channel) (f : RxCounters → RxCounters) (s : State) : (countRx ch f s).ftx = s.ftx := by cases ch <;> rfl
@[simp] theorem countRx_dst (ch : Channel) (f : RxCounters → RxCounters) (s : State) : (countRx ch f s).dst = s.dst := by cases ch <;> rfl
@[simp] theorem countRx_trk (ch : Channel) (f : RxCounters → RxCounters) (s : State) : (countRx ch f s).trk = s.trk := by cases ch <;> rfl
@[simp] theorem countRx_mre (ch : Channel) (f : RxCounters → RxCounters) (s : State) : (countRx ch f s).mre = s.mre := by cases ch <;> rfl
@[simp] theorem countRx_alm (ch : Channel) (f : RxCounters → RxCounters) (s : State) : (countRx ch f s).alm = s.alm := by cases ch <;> rfl
@[simp] theorem countRx_pending (ch : Channel) (f : RxCounters → RxCounters) (s : State) : (countRx ch f s).pending = s.pending := by cases ch <;> rfl

@[simp] theorem toHunt_inReset (ch : Channel) (s : State) : (toHunt ch s).inReset = s.inReset := by cases ch <;> rfl
@[simp] theorem toHunt_tbs (ch : Channel) (s : State) : (toHunt ch s).tbs = s.tbs := by cases ch <;> rfl
@[simp] theorem toHunt_profile (ch : Channel) (s : State) : (toHunt ch s).profile = s.profile := by cases ch <;> rfl
@[simp] theorem toHunt_stab (ch : Channel) (s : State) : (toHunt ch s).stab = s.stab := by cases ch <;> rfl
@[simp] theorem toHunt_rpf (ch : Channel) (s : State) : (toHunt ch s).rpf = s.rpf := by cases ch <;> rfl
@[simp] theorem toHunt_dls (ch : Channel) (s : State) : (toHunt ch s).dls = s.dls := by cases ch <;> rfl
@[simp] theorem toHunt_ftx (ch : Channel) (s : State) : (toHunt ch s).ftx = s.ftx := by cases ch <;> rfl
@[simp] theorem toHunt_dst (ch : Channel) (s : State) : (toHunt ch s).dst = s.dst := by cases ch <;> rfl
@[simp] theorem toHunt_trk (ch : Channel) (s : State) : (toHunt ch s).trk = s.trk := by cases ch <;> rfl
@[simp] theorem toHunt_mre (ch : Channel) (s : State) : (toHunt ch s).mre = s.mre := by cases ch <;> rfl
@[simp] theorem toHunt_alm (ch : Channel) (s : State) : (toHunt ch s).alm = s.alm := by cases ch <;> rfl
@[simp] theorem toHunt_pending (ch : Channel) (s : State) : (toHunt ch s).pending = s.pending := by cases ch <;> rfl

@[simp] theorem losePreamble_inReset (ch : Channel) (s : State) : (losePreamble ch s).inReset = s.inReset := by cases ch <;> rfl
@[simp] theorem losePreamble_tbs (ch : Channel) (s : State) : (losePreamble ch s).tbs = s.tbs := by cases ch <;> rfl
@[simp] theorem losePreamble_profile (ch : Channel) (s : State) : (losePreamble ch s).profile = s.profile := by cases ch <;> rfl
@[simp] theorem losePreamble_stab (ch : Channel) (s : State) : (losePreamble ch s).stab = s.stab := by cases ch <;> rfl
@[simp] theorem losePreamble_rpf (ch : Channel) (s : State) : (losePreamble ch s).rpf = s.rpf := by cases ch <;> rfl
@[simp] theorem losePreamble_dls (ch : Channel) (s : State) : (losePreamble ch s).dls = s.dls := by cases ch <;> rfl
@[simp] theorem losePreamble_ftx (ch : Channel) (s : State) : (losePreamble ch s).ftx = s.ftx := by cases ch <;> rfl
@[simp] theorem losePreamble_dst (ch : Channel) (s : State) : (losePreamble ch s).dst = s.dst := by cases ch <;> rfl
@[simp] theorem losePreamble_trk (ch : Channel) (s : State) : (losePreamble ch s).trk = s.trk := by cases ch <;> rfl
@[simp] theorem losePreamble_mre (ch : Channel) (s : State) : (losePreamble ch s).mre = s.mre := by cases ch <;> rfl
@[simp] theorem losePreamble_alm (ch : Channel) (s : State) : (losePreamble ch s).alm = s.alm := by cases ch <;> rfl
@[simp] theorem losePreamble_pending (ch : Channel) (s : State) : (losePreamble ch s).pending = s.pending := by cases ch <;> rfl

@[simp] theorem missSync_inReset (ch : Channel) (s : State) : (missSync ch s).inReset = s.inReset := by cases ch <;> rfl
@[simp] theorem missSync_tbs (ch : Channel) (s : State) : (missSync ch s).tbs = s.tbs := by cases ch <;> rfl
@[simp] theorem missSync_profile (ch : Channel) (s : State) : (missSync ch s).profile = s.profile := by cases ch <;> rfl
@[simp] theorem missSync_stab (ch : Channel) (s : State) : (missSync ch s).stab = s.stab := by cases ch <;> rfl
@[simp] theorem missSync_rpf (ch : Channel) (s : State) : (missSync ch s).rpf = s.rpf := by cases ch <;> rfl
@[simp] theorem missSync_dls (ch : Channel) (s : State) : (missSync ch s).dls = s.dls := by cases ch <;> rfl
@[simp] theorem missSync_ftx (ch : Channel) (s : State) : (missSync ch s).ftx = s.ftx := by cases ch <;> rfl
@[simp] theorem missSync_dst (ch : Channel) (s : State) : (missSync ch s).dst = s.dst := by cases ch <;> rfl
@[simp] theorem missSync_trk (ch : Channel) (s : State) : (missSync ch s).trk = s.trk := by cases ch <;> rfl
@[simp] theorem missSync_mre (ch : Channel) (s : State) : (missSync ch s).mre = s.mre := by cases ch <;> rfl
@[simp] theorem missSync_alm (ch : Channel) (s : State) : (missSync ch s).alm = s.alm := by cases ch <;> rfl
@[simp] theorem missSync_pending (ch : Channel) (s : State) : (missSync ch s).pending = s.pending := by cases ch <;> rfl

@[simp] theorem receiver_setReceiver (ch : Channel) (r : Receiver) (s : State) :
    receiver (setReceiver ch r s) ch = r := by cases ch <;> rfl

@[simp] theorem setReceiver_setReceiver (ch : Channel) (r q : Receiver) (s : State) :
    setReceiver ch r (setReceiver ch q s) = setReceiver ch r s := by cases ch <;> rfl

@[simp] theorem setReceiver_receiver (ch : Channel) (s : State) :
    setReceiver ch (receiver s ch) s = s := by cases ch <;> rfl

/-- A receiver that returns to HUNT after its counters have changed. -/
theorem toHunt_countRx (ch : Channel) (f : RxCounters → RxCounters) (s : State) :
    toHunt ch (countRx ch f s) =
      setReceiver ch { state := .hunt none, counters := f (receiver s ch).counters } s := by
  cases ch <;> rfl

@[simp] theorem now_eq (s : State) : s.now = s.tbs.partTime := rfl

end Sys2Proof.Machine
end

