-- ==== Sys2Proof/Laws/Ops.lean ====
section
/-!
SUPPORT. What the operations that several blocks share can do: raising a cause, joining notices, offering a
TELEGRAM item, reaching a result, the arbiter. For each one a frame lemma names the blocks it may change.
-/

namespace Sys2Proof.Machine

/-! ## Causes and notices -/

/-- A raise of a pending cause only counts (R135). -/
theorem raise_of_pending {c : Cause} {s : State} {o : Occurrence} (h : (causeState s c).occurrence = some o) :
    raise c s =
      setCause c { causeState s c with occurrence := some { o with count := bumpByte o.count } } s := by
  simp only [raise, h]

/-- A raise of a cause that is not pending (R135). -/
theorem raise_of_clear {c : Cause} {s : State} (h : (causeState s c).occurrence = none) :
    raise c s = decideAttn (joinNotice c (setCause c
      { causeState s c with occurrence := some { count := 1, first := s.now } } s)) := by
  simp only [raise, h]

/-- A notice that may be due changes the notice set alone. -/
theorem joinNotice_frame (c : Cause) (s : State) :
    joinNotice c s = { s with trk.notices := (joinNotice c s).trk.notices } := by
  unfold joinNotice; split <;> rfl

theorem joinAllNotices_frame (s : State) :
    joinAllNotices s = { s with trk.notices := (joinAllNotices s).trk.notices } := by
  have key : ∀ (l : List Cause) (t : State),
      l.foldl (fun t c => joinNotice c t) t =
        { t with trk.notices := (l.foldl (fun t c => joinNotice c t) t).trk.notices } := by
    intro l
    induction l with
    | nil => intro t; rfl
    | cons c l ih =>
      intro t
      simp only [List.foldl_cons]
      rw [ih, joinNotice_frame c t]
  exact key allCauses s

/-- A raise changes the causes, ATTN and the notice set alone. -/
theorem raise_frame (c : Cause) (s : State) :
    raise c s =
      { s with
        alm.causes := (raise c s).alm.causes
        alm.attn := (raise c s).alm.attn
        trk.notices := (raise c s).trk.notices } := by
  cases h : (causeState s c).occurrence with
  | some o => rw [raise_of_pending h]; rfl
  | none => rw [raise_of_clear h, joinNotice_frame]; rfl

/-! ## Offers -/

/-- An offer with room in the stream (R116). -/
theorem offerTelegram_taken {t : TelegramItem} {s : State} (h : s.dst.telegramCount < 24) :
    offerTelegram t s = { s with dst.waiting := placeTelegram t s.dst.waiting } := by
  simp only [offerTelegram, if_neg (Nat.not_le.mpr h)]

/-- An offer with 24 TELEGRAM items held (R61, R116). -/
theorem offerTelegram_lost {t : TelegramItem} {s : State} (h : 24 ≤ s.dst.telegramCount) :
    offerTelegram t s = raise .streamDrop { s with rpf.counters.itemsLost := bump s.rpf.counters.itemsLost } := by
  simp only [offerTelegram, if_pos h]

/-- An offer changes the waiting queue, or the items-lost count, the causes, ATTN and the notice set. -/
theorem offerTelegram_frame (t : TelegramItem) (s : State) :
    offerTelegram t s =
      { s with
        dst.waiting := (offerTelegram t s).dst.waiting
        rpf.counters.itemsLost := (offerTelegram t s).rpf.counters.itemsLost
        alm.causes := (offerTelegram t s).alm.causes
        alm.attn := (offerTelegram t s).alm.attn
        trk.notices := (offerTelegram t s).trk.notices } := by
  by_cases h : 24 ≤ s.dst.telegramCount
  · rw [offerTelegram_lost h, raise_frame]
  · rw [offerTelegram_taken (Nat.not_le.mp h)]

/-! ## Slots, results and the arbiter -/

/-- A slot that reaches a result: REPORTING, no candidate, its counter and its OUTCOME item (R87, R88). -/
theorem reachResult_eq (i : Fin 16) (d : Downlink) (r : DownlinkResult) (s : State) :
    reachResult i d r s =
      { withSlot s i (.reporting d r s.now) with
        dls.counters := countResult r s.dls.counters
        dst.waiting := s.dst.waiting ++ [outcomeNow s i d r] } := rfl

/-- A slot whose window is missed (R79). -/
theorem missWindow_eq (i : Fin 16) (d : Downlink) (s : State) :
    missWindow i d s = raise .downlinkMissed
      { withSlot s i (.held d) with dls.counters.missedWindows := bump s.dls.counters.missedWindows } := rfl

theorem missWindow_frame (i : Fin 16) (d : Downlink) (s : State) :
    missWindow i d s =
      { s with
        dls := (missWindow i d s).dls
        ftx.candidates := (missWindow i d s).ftx.candidates
        alm.causes := (missWindow i d s).alm.causes
        alm.attn := (missWindow i d s).alm.attn
        trk.notices := (missWindow i d s).trk.notices } := by
  rw [missWindow_eq, raise_frame]; rfl

/-- A grant to an ARMED slot (R80, R95, R102). -/
theorem grant_armed {i : Fin 16} {s : State} {d : Downlink} {o c : PartTime}
    (h : slotState s i = .armed d o c) :
    grant i s =
      { withSlot s i (.sending d.granted) with
        dls.counters.transmissions := bump s.dls.counters.transmissions
        ftx.state := .sending (takeTxSnapshot s d) i 0
        ftx.keyLine := true
        ftx.enLine := true
        ftx.counters.started := bump s.ftx.counters.started } := by
  simp only [grant, h]; rfl

theorem grant_frame (i : Fin 16) (s : State) :
    grant i s = { s with dls := (grant i s).dls, ftx := (grant i s).ftx } := by
  unfold grant; split <;> rfl

theorem arbiter_frame (s : State) :
    arbiter s = { s with dls := (arbiter s).dls, ftx := (arbiter s).ftx } := by
  unfold arbiter
  split
  · split
    · exact grant_frame _ s
    · rfl
  all_goals rfl

theorem offerSlot_frame (i : Fin 16) (s : State) :
    offerSlot i s = { s with dls := (offerSlot i s).dls, ftx := (offerSlot i s).ftx } := by
  unfold offerSlot; rw [arbiter_frame]; rfl

/-- The first largest member: it is in the list, no key is larger, and every earlier key is smaller. -/
theorem firstMax_none {ι : Type} (key : ι → Nat) (l : List ι) : firstMax key l = none ↔ l = [] := by
  cases l with
  | nil => simp [firstMax]
  | cons x xs =>
    simp only [firstMax, reduceCtorEq, iff_false]
    split
    · simp
    · split <;> simp

theorem firstMax_some {ι : Type} (key : ι → Nat) (l : List ι) (x : ι) (h : firstMax key l = some x) :
    ∃ before others, l = before ++ x :: others ∧ (∀ y ∈ before, key y < key x) ∧
      ∀ y ∈ others, key y ≤ key x := by
  induction l generalizing x with
  | nil => simp [firstMax] at h
  | cons y ys ih =>
    simp only [firstMax] at h
    split at h
    · rename_i hn
      rw [firstMax_none] at hn
      subst hn
      obtain rfl := Option.some.inj h
      exact ⟨[], [], by simp⟩
    · rename_i z hz
      obtain ⟨b, o, rfl, hb, ho⟩ := ih z hz
      split at h
      · rename_i hlt
        obtain rfl := Option.some.inj h
        refine ⟨y :: b, o, by simp, ?_, ho⟩
        intro w hw
        rcases List.mem_cons.mp hw with rfl | hw
        · exact hlt
        · exact hb w hw
      · rename_i hlt
        obtain rfl := Option.some.inj h
        refine ⟨[], b ++ z :: o, by simp, by simp, ?_⟩
        intro w hw
        rcases List.mem_append.mp hw with hw | hw
        · have := hb w hw; omega
        · rcases List.mem_cons.mp hw with rfl | hw
          · omega
          · have := ho w hw; omega

/-! ## First copies -/

theorem countStaleConfirm_frame (n : FirstCopy) (s : State) :
    countStaleConfirm n s =
      { s with dls.counters.staleConfirms := (countStaleConfirm n s).dls.counters.staleConfirms } := by
  unfold countStaleConfirm; split <;> rfl

/-- The confirmation step changes the downlink store, the candidates and the waiting queue alone. -/
theorem confirmStep_frame (n : FirstCopy) (s : State) :
    confirmStep n s =
      { s with
        dls := (confirmStep n s).dls
        ftx.candidates := (confirmStep n s).ftx.candidates
        dst.waiting := (confirmStep n s).dst.waiting } := by
  unfold confirmStep
  split
  · rw [countStaleConfirm_frame]
  · split
    · split
      · rfl
      · split
        · rw [countStaleConfirm_frame]; rfl
        · rw [countStaleConfirm_frame]; rfl
    · rw [countStaleConfirm_frame]; rfl
    · rw [countStaleConfirm_frame]
    all_goals rfl

theorem armSlot_frame (i : Fin 16) (d : Downlink) (n : FirstCopy) (e : Settings) (s : State) :
    armSlot i d n e s =
      { s with
        dls := (armSlot i d n e s).dls
        ftx := (armSlot i d n e s).ftx
        alm.causes := (armSlot i d n e s).alm.causes
        alm.attn := (armSlot i d n e s).alm.attn
        trk.notices := (armSlot i d n e s).trk.notices } := by
  unfold armSlot
  split
  · rw [missWindow_frame]; rfl
  · split
    · rw [offerSlot_frame]; rfl
    · rfl

/-- The arming step changes the downlink store, the transmitter, the causes, ATTN and the notice set alone. -/
theorem armStep_frame (n : FirstCopy) (s : State) :
    armStep n s =
      { s with
        dls := (armStep n s).dls
        ftx := (armStep n s).ftx
        alm.causes := (armStep n s).alm.causes
        alm.attn := (armStep n s).alm.attn
        trk.notices := (armStep n s).trk.notices } := by
  unfold armStep
  split
  · rfl
  · split
    · split
      · rfl
      · split
        · exact armSlot_frame _ _ _ _ _
        all_goals rfl
    · rfl

/-- A first-copy notification changes the downlink store, the transmitter, the waiting queue, the causes, ATTN
and the notice set alone (R74). -/
theorem notifyStore_frame (n : FirstCopy) (s : State) :
    ∃ dls ftx waiting causes attn notices, notifyStore n s =
      { s with
        dls := dls, ftx := ftx, dst.waiting := waiting
        alm.causes := causes, alm.attn := attn, trk.notices := notices } := by
  unfold notifyStore
  obtain ⟨a, b, c, h⟩ : ∃ dls candidates waiting, confirmStep n s =
      { s with dls := dls, ftx.candidates := candidates, dst.waiting := waiting } :=
    ⟨_, _, _, confirmStep_frame n s⟩
  obtain ⟨a', b', c', d', e', h'⟩ : ∃ dls ftx causes attn notices, armStep n (confirmStep n s) =
      { confirmStep n s with
        dls := dls, ftx := ftx, alm.causes := causes, alm.attn := attn, trk.notices := notices } :=
    ⟨_, _, _, _, _, armStep_frame n (confirmStep n s)⟩
  rw [h', h]
  exact ⟨_, _, _, _, _, _, rfl⟩

theorem discardSlot_frame (id : StationId) (s : State) (i : Fin 16) :
    ∃ dls candidates waiting, discardSlot id s i =
      { s with dls := dls, ftx.candidates := candidates, dst.waiting := waiting } := by
  unfold discardSlot
  split
  all_goals first | exact ⟨_, _, _, rfl⟩ | (split <;> exact ⟨_, _, _, rfl⟩)

/-- A discard claim changes the downlink store, the candidates and the waiting queue alone (R86). -/
theorem discardClaim_frame (id : StationId) (s : State) :
    ∃ dls candidates waiting, discardClaim id s =
      { s with dls := dls, ftx.candidates := candidates, dst.waiting := waiting } := by
  unfold discardClaim
  generalize List.finRange 16 = l
  induction l generalizing s with
  | nil => exact ⟨_, _, _, rfl⟩
  | cons i l ih =>
    obtain ⟨a, b, c, h⟩ := discardSlot_frame id s i
    obtain ⟨a', b', c', h'⟩ := ih (discardSlot id s i)
    rw [List.foldl_cons, h', h]
    exact ⟨_, _, _, rfl⟩

/-! ## Roundings -/

/-- R195: a rounded place is no further than half a period from the place itself. -/
theorem nearest_near (num : Nat) {den : Nat} (h : 0 < den) :
    2 * (den * nearest num den) ≤ 2 * num + den ∧ 2 * num ≤ 2 * (den * nearest num den) + den := by
  have hd := Nat.div_add_mod num den
  have hm := Nat.mod_lt num h
  unfold nearest
  split
  · omega
  · have hs : den * (num / den + 1) = den * (num / den) + den := by ring
    split
    · omega
    · split <;> omega

/-- R195: at a whole number and a half, the choice is free. -/
theorem nearest_tie (m : Nat) {num den : Nat} (h : 0 < den) (ht : 2 * num = 2 * (den * m) + den) :
    nearest num den = if Config.tieRoundsUp num den then m + 1 else m := by
  have hq : num / den = m := by
    rw [Nat.div_eq_iff h]
    have : m * den = den * m := Nat.mul_comm _ _
    omega
  have hr : 2 * (num % den) = den := by
    have := Nat.div_add_mod num den
    rw [hq] at this
    omega
  unfold nearest
  rw [hr, if_neg (Nat.lt_irrefl _), if_neg (Nat.lt_irrefl _), hq]

/-- R195: a later place is not rounded to an earlier period. -/
theorem nearest_mono {a b den : Nat} (hd : 0 < den) (h : a ≤ b) : nearest a den ≤ nearest b den := by
  rcases Nat.lt_or_eq_of_le h with h | rfl
  · obtain ⟨h1, -⟩ := nearest_near a hd
    obtain ⟨-, h2⟩ := nearest_near b hd
    refine Nat.le_of_lt_succ (Nat.lt_of_mul_lt_mul_left (a := 2 * den) ?_)
    rw [Nat.mul_succ, Nat.mul_assoc, Nat.mul_assoc]
    omega
  · exact Nat.le_refl _

/-- R26, R195: the places of a cell come in the order of their 24ths. -/
theorem place24_mono (t : TimeBase) (us : Nat) {j k : Nat} (h : j ≤ k) : t.place24 us j ≤ t.place24 us k :=
  nearest_mono (by decide) (Nat.mul_le_mul_left _ h)

end Sys2Proof.Machine
end

