-- ==== Sys2Proof/Laws/Filter.lean ====
section
/-!
SUPPORT. What the station table and the repeat filter can do: lookup, learning, closing records, making a
place, and handling one copy. A frame lemma says which fields an operation may change.
-/

namespace Sys2Proof.Machine

/-! ## Lookup -/

/-- R5: an entry that lookup finds stands in its place and has the station ID. -/
theorem lookup_some {t : StationTable} {id : StationId} {i : Fin 64} {e : Entry}
    (h : lookup t id = some (i, e)) : t.places[i] = some e ∧ e.station = id := by
  unfold lookup at h
  obtain ⟨j, -, hj⟩ := List.exists_of_findSome?_eq_some h
  split at hj
  · split at hj
    · rename_i f hf hid
      obtain ⟨rfl, rfl⟩ : j = i ∧ f = e := by simpa using hj
      exact ⟨hf, hid⟩
    · cases hj
  · cases hj

/-- R5: lookup finds nothing exactly when no place holds the station. -/
theorem lookup_none {t : StationTable} {id : StationId} :
    lookup t id = none ↔ ∀ (i : Fin 64) (e : Entry), t.places[i] = some e → e.station ≠ id := by
  unfold lookup
  rw [List.findSome?_eq_none_iff]
  constructor
  · intro h i e hi hid
    have := h i (List.mem_finRange i)
    rw [hi] at this
    simp [hid] at this
  · intro h i _
    split
    · rename_i e he
      simp [h i e he]
    · rfl

/-- R10, R18: the free place of lowest index. -/
theorem freePlace_some {t : StationTable} {i : Fin 64} (h : freePlace t = some i) :
    t.places[i] = none ∧ ∀ j, j < i → t.places[j] ≠ none := by
  unfold freePlace at h
  have hi : (t.places[i]).isNone = true := List.find?_some (p := fun i : Fin 64 => (t.places[i]).isNone) h
  refine ⟨Option.isNone_iff_eq_none.mp hi, fun j hj hn => ?_⟩
  rw [List.find?_eq_some_iff_getElem] at h
  obtain ⟨-, k, hk, hki, hlow⟩ := h
  have hkv : k = i.val := by rw [← hki]; simp
  have := hlow j.val (by rw [hkv]; exact hj)
  simp [hn] at this

theorem freePlace_none {t : StationTable} : freePlace t = none ↔ ∀ i : Fin 64, t.places[i] ≠ none := by
  unfold freePlace
  rw [List.find?_eq_none]
  simp [List.mem_finRange]

/-! ## Records -/

/-- R48: a record that matches stands in the list and is of the telegram. -/
theorem findRecord_some {rs : List Record} {id : StationId} {q : Byte} {r : Record}
    (h : findRecord rs id q = some r) : r ∈ rs ∧ r.station = id ∧ r.sequence = q := by
  unfold findRecord at h
  refine ⟨List.mem_of_find?_eq_some h, ?_⟩
  simpa [Record.isOf] using List.find?_some h

theorem findRecord_none {rs : List Record} {id : StationId} {q : Byte} :
    findRecord rs id q = none ↔ ∀ r ∈ rs, ¬ (r.station = id ∧ r.sequence = q) := by
  unfold findRecord
  rw [List.find?_eq_none]
  simp [Record.isOf]

/-- A closing record changes the list, the items-lost count, the waiting queue, the causes, ATTN and the notice
set alone (R56). -/
theorem closeRecord_frame (r : Record) (b : Bool) (s : State) :
    ∃ records lost waiting causes attn notices, closeRecord r b s =
      { s with
        rpf.records := records, rpf.counters.itemsLost := lost, dst.waiting := waiting
        alm.causes := causes, alm.attn := attn, trk.notices := notices } := by
  unfold closeRecord
  rw [offerTelegram_frame]
  exact ⟨_, _, _, _, _, _, rfl⟩

/-- Making a place changes the filter, the waiting queue, the causes, ATTN and the notice set alone (R53). -/
theorem makePlace_frame (s : State) :
    ∃ rpf waiting causes attn notices, makePlace s =
      { s with
        rpf := rpf, dst.waiting := waiting
        alm.causes := causes, alm.attn := attn, trk.notices := notices } := by
  unfold makePlace
  dsimp only
  split
  · rw [raise_frame]; exact ⟨_, _, _, _, _, rfl⟩
  · split
    · exact ⟨_, _, _, _, _, rfl⟩
    · rename_i r _ _
      obtain ⟨a, b, c, d, e, f, h⟩ := closeRecord_frame r true s
      simp only [h]
      rw [raise_frame]
      exact ⟨_, _, _, _, _, rfl⟩

/-- A closure claim changes the filter, the waiting queue, the causes, ATTN and the notice set alone (R59). -/
theorem closureClaim_frame (id : StationId) (s : State) :
    ∃ rpf waiting causes attn notices, closureClaim id s =
      { s with
        rpf := rpf, dst.waiting := waiting
        alm.causes := causes, alm.attn := attn, trk.notices := notices } := by
  unfold closureClaim
  generalize claimedRecords id s = l
  have key : ∀ (l : List Record) (t : State), ∃ rpf waiting causes attn notices,
      l.foldl (fun t r => offerTelegram (recordItem r none true) t) t =
        { t with
          rpf := rpf, dst.waiting := waiting
          alm.causes := causes, alm.attn := attn, trk.notices := notices } := by
    intro l
    induction l with
    | nil => intro t; exact ⟨_, _, _, _, _, rfl⟩
    | cons r l ih =>
      intro t
      rw [List.foldl_cons]
      obtain ⟨a, b, c, d, e, h⟩ := ih (offerTelegram (recordItem r none true) t)
      rw [h, offerTelegram_frame]
      exact ⟨_, _, _, _, _, rfl⟩
  obtain ⟨a, b, c, d, e, h⟩ := key l
    { s with rpf.records := s.rpf.records.map (fun r => if r.station == id then r.settle else r) }
  rw [h]
  exact ⟨_, _, _, _, _, rfl⟩

/-! ## Learning and the handling of one copy -/

/-- Learning changes the places of the table, the filter's counters, the causes, ATTN and the notice set alone
(R9–R13). -/
theorem learn_frame (id : StationId) (s : State) :
    ∃ places counters causes attn notices, (learn id s).1 =
      { s with
        stab.places := places, rpf.counters := counters
        alm.causes := causes, alm.attn := attn, trk.notices := notices } := by
  unfold learn
  split
  · exact ⟨_, _, _, _, _, rfl⟩
  · dsimp only
    rw [raise_frame]; exact ⟨_, _, _, _, _, rfl⟩

/-- What the filter's handling of a copy may change. -/
def CopyFrame (s t : State) : Prop :=
  ∃ places rpf dls ftx waiting causes attn notices, t =
    { s with
      stab.places := places, rpf := rpf, dls := dls, ftx := ftx, dst.waiting := waiting
      alm.causes := causes, alm.attn := attn, trk.notices := notices }

theorem CopyFrame.trans {s t u : State} (h : CopyFrame s t) (g : CopyFrame t u) : CopyFrame s u := by
  obtain ⟨_, _, _, _, _, _, _, _, rfl⟩ := h
  obtain ⟨_, _, _, _, _, _, _, _, rfl⟩ := g
  exact ⟨_, _, _, _, _, _, _, _, rfl⟩

theorem accept_frame (c : Copy) (check : Word16) (e : Option Entry) (s : State) :
    CopyFrame s (accept c check e s) := by
  have hplace : ∀ t, CopyFrame t (if 48 ≤ t.rpf.records.length then makePlace t else t) := by
    intro t
    split
    · obtain ⟨a, b, c, d, f, h⟩ := makePlace_frame t
      rw [h]; exact ⟨_, _, _, _, _, _, _, _, rfl⟩
    · exact ⟨_, _, _, _, _, _, _, _, rfl⟩
  have hproduce : ∀ r t, CopyFrame t (produceNow r (addRecord r t)) := by
    intro r t
    unfold produceNow
    split
    · exact ⟨_, _, _, _, _, _, _, _, rfl⟩
    · rw [offerTelegram_frame]; exact ⟨_, _, _, _, _, _, _, _, rfl⟩
  have hnotify : ∀ n t, CopyFrame t (notifyStore n t) := by
    intro n t
    obtain ⟨a, b, c, d, f, g, h⟩ := notifyStore_frame n t
    rw [h]; exact ⟨_, _, _, _, _, _, _, _, rfl⟩
  have hrest : ∀ t, CopyFrame t
      (if e.isSome then notifyStore (firstCopyOf c)
          (produceNow (newRecord c check e t.stab) (addRecord (newRecord c check e t.stab) t))
        else produceNow (newRecord c check e t.stab) (addRecord (newRecord c check e t.stab) t)) := by
    intro t
    split
    · exact (hproduce _ _).trans (hnotify _ _)
    · exact hproduce _ _
  have hcount : CopyFrame s { s with rpf.counters.accepted := bump s.rpf.counters.accepted } :=
    ⟨_, _, _, _, _, _, _, _, rfl⟩
  exact (hcount.trans (hplace _)).trans (hrest _)

theorem afterLookup_frame (c : Copy) (e : Option (Fin 64 × Entry)) (s : State) :
    CopyFrame s (afterLookup c e s) := by
  unfold afterLookup
  dsimp only
  split
  · split
    · unfold takeDuplicate
      split <;> exact ⟨_, _, _, _, _, _, _, _, rfl⟩
    · exact ⟨_, _, _, _, _, _, _, _, rfl⟩
  · split
    · unfold takeJudged
      split
      · dsimp only
        refine CopyFrame.trans ?_ (accept_frame _ _ _ _)
        exact ⟨_, _, _, _, _, _, _, _, rfl⟩
      all_goals exact ⟨_, _, _, _, _, _, _, _, rfl⟩
    · exact accept_frame _ _ _ _

/-- The handling of a copy changes the places of the table, the filter, the downlink store, the transmitter,
the waiting queue, the causes, ATTN and the notice set alone (R47). -/
theorem handleCopy_frame (c : Copy) (s : State) : CopyFrame s (handleCopy c s) := by
  unfold handleCopy
  split
  · split
    · exact ⟨_, _, _, _, _, _, _, _, rfl⟩
    all_goals exact afterLookup_frame _ _ _
  · split
    · exact ⟨_, _, _, _, _, _, _, _, rfl⟩
    · exact afterLookup_frame _ _ _
    · obtain ⟨_, _, _, _, _, h⟩ := learn_frame c.station s
      refine CopyFrame.trans (t := (learn c.station s).1) ?_ (afterLookup_frame _ _ _)
      rw [h]; exact ⟨_, _, _, _, _, _, _, _, rfl⟩

end Sys2Proof.Machine
end

