-- ==== Sys2Proof/Laws/Stream.lean ====
section
/-!
SUPPORT. What the delivery stream and the sessions can do: sending, acknowledging, timing out, closing and
opening. A frame lemma says which fields an operation may change.
-/

namespace Sys2Proof.Machine

/-! ## Sending -/

theorem startTimer_eq (s : State) :
    startTimer s = { s with dst.timer := some (s.dst.timer.getD (ackDeadline s)) } := by
  unfold startTimer
  split
  · rename_i d h
    rw [h, Option.getD_some, ← h]
  · rename_i h; rw [h, Option.getD_none]

/-- R120: what a send may change; it is possible when an item is marked or one waits. -/
theorem streamSend_frame {s t : State} {x : Byte × Item} (h : streamSend s = some (x, t)) :
    ∃ waiting window next timer counters, t =
      { s with
        dst.waiting := waiting, dst.window := window, dst.nextSequence := next, dst.timer := timer
        dst.counters := counters } := by
  unfold streamSend at h
  split at h
  · obtain ⟨rfl, rfl⟩ := Prod.mk.inj (Option.some.inj h)
    rw [startTimer_eq]; exact ⟨_, _, _, _, _, rfl⟩
  · split at h
    · cases h
    · obtain ⟨rfl, rfl⟩ := Prod.mk.inj (Option.some.inj h)
      rw [startTimer_eq]; exact ⟨_, _, _, _, _, rfl⟩

/-- R119, R120: an eligible stream has an item to send. -/
theorem streamSend_of_eligible {s : State} (h : streamEligible s = true) : streamSend s ≠ none := by
  unfold streamEligible at h
  unfold streamSend
  split
  · simp
  · rename_i hn
    split
    · rename_i hw
      rw [List.find?_eq_none] at hn
      simp [resendWaiting, hw] at h
      obtain ⟨-, w, hm, hp⟩ := h
      exact absurd hp (hn w hm)
    · simp

/-- R120: clearing the oldest mark changes marks alone. -/
theorem clearFirstPending_items (ws : List SentItem) :
    (clearFirstPending ws).map SentItem.item = ws.map SentItem.item ∧
      (clearFirstPending ws).map SentItem.sequence = ws.map SentItem.sequence := by
  induction ws with
  | nil => exact ⟨rfl, rfl⟩
  | cons w ws ih => unfold clearFirstPending; split <;> simp [ih]

@[simp] theorem clearFirstPending_length (ws : List SentItem) : (clearFirstPending ws).length = ws.length := by
  simpa using congrArg List.length (clearFirstPending_items ws).1

@[simp] theorem markAll_items (ws : List SentItem) :
    (markAll ws).map SentItem.item = ws.map SentItem.item := by
  simp [markAll, Function.comp_def]

@[simp] theorem markAll_sequences (ws : List SentItem) :
    (markAll ws).map SentItem.sequence = ws.map SentItem.sequence := by
  simp [markAll, Function.comp_def]

@[simp] theorem markAll_length (ws : List SentItem) : (markAll ws).length = ws.length := by
  simp [markAll]

/-! ## Releasing items -/

/-- R89: releasing items changes the places of the downlink store alone. -/
theorem releaseItems_frame (its : List Item) (s : State) :
    ∃ places, its.foldl releaseItem s = { s with dls.places := places } := by
  induction its generalizing s with
  | nil => exact ⟨_, rfl⟩
  | cons it its ih =>
    obtain ⟨p, h⟩ := ih (releaseItem s it)
    rw [List.foldl_cons, h]
    cases it <;> exact ⟨_, rfl⟩

/-- R124: removing acknowledged items changes the window, its count and the places of the store alone. -/
theorem removeAcked_frame (a : Nat) (s : State) :
    ∃ places, removeAcked a s =
      { s with
        dls.places := places
        dst.window := s.dst.window.drop a
        dst.counters.acknowledged := bumpBy (s.dst.window.take a).length s.dst.counters.acknowledged } := by
  unfold removeAcked
  obtain ⟨p, h⟩ := releaseItems_frame ((s.dst.window.take a).map SentItem.item)
    { s with
      dst.window := s.dst.window.drop a
      dst.counters.acknowledged := bumpBy (s.dst.window.take a).length s.dst.counters.acknowledged }
  rw [h]
  exact ⟨_, rfl⟩

/-- R123–R126: an ACK changes the stream and the places of the store alone. -/
theorem takeAck_frame (n : Byte) (s : State) :
    ∃ places dst, takeAck n s = { s with dls.places := places, dst := dst } := by
  unfold takeAck
  split
  · obtain ⟨p, h⟩ := removeAcked_frame (ackCount s.dst n) s
    dsimp only
    rw [h]
    split
    · split <;> exact ⟨_, _, rfl⟩
    · exact ⟨_, _, rfl⟩
  · exact ⟨_, _, rfl⟩

/-- R127: the expiry of the timer changes the stream, the causes, ATTN and the notice set alone. -/
theorem timerExpires_frame (s : State) :
    ∃ dst causes attn notices, timerExpires s =
      { s with dst := dst, alm.causes := causes, alm.attn := attn, trk.notices := notices } := by
  unfold timerExpires
  dsimp only
  split
  · exact ⟨_, _, _, _, rfl⟩
  · rw [raise_frame]; exact ⟨_, _, _, _, rfl⟩

/-- R130: the stream at session open changes the stream and the places of the store alone. -/
theorem streamOpen_frame (mode : OpenMode) (s : State) :
    ∃ places dst, streamOpen mode s = { s with dls.places := places, dst := dst } := by
  unfold streamOpen
  cases mode
  · exact ⟨_, _, rfl⟩
  · dsimp only
    obtain ⟨p, h⟩ := releaseItems_frame s.dst.waiting
      { s with
        dst.waiting := []
        dst.counters.droppedAtFresh :=
          bumpBy (s.dst.waiting.countP Item.isTelegram) s.dst.counters.droppedAtFresh }
    rw [h]
    exact ⟨_, _, rfl⟩

/-! ## Sessions -/

/-- R159: the idle measurement changes the idle deadline of an OPEN session alone. -/
theorem restartIdle_closed {s : State} (h : s.trk.session = .closed) : restartIdle s = s := by
  simp only [restartIdle, h]

theorem restartIdle_opened {s : State} {d : Option PartTime} (h : s.trk.session = .opened d) :
    restartIdle s = { s with trk.session := .opened (idleDeadlineNow s) } := by
  simp only [restartIdle, h]

theorem restartIdle_frame (s : State) : ∃ session, restartIdle s = { s with trk.session := session } := by
  unfold restartIdle; split <;> exact ⟨_, rfl⟩

/-- R157: a session already CLOSED stays as it is. -/
theorem closeSession_closed {s : State} (h : s.trk.session = .closed) : closeSession s = s := by
  simp only [closeSession, h]

/-- R157: a session close changes the stream, and of the trunk link the session, the wait count, the notice
set, the line and the aborted count alone. -/
theorem closeSession_frame (s : State) :
    ∃ waiting window timer state count session wait notices line aborted, closeSession s =
      { s with
        dst.waiting := waiting, dst.window := window, dst.timer := timer, dst.state := state
        dst.timeoutCount := count
        trk.session := session, trk.streamWait := wait, trk.notices := notices, trk.line := line
        trk.counters.framesAborted := aborted } := by
  unfold closeSession
  split
  · exact ⟨_, _, _, _, _, _, _, _, _, _, rfl⟩
  · unfold abortLine
    split
    · exact ⟨_, _, _, _, _, _, _, _, _, _, rfl⟩
    · split <;> exact ⟨_, _, _, _, _, _, _, _, _, _, rfl⟩

/-- R157: after a session close the session is CLOSED. -/
@[simp] theorem closeSession_session (s : State) : (closeSession s).trk.session = .closed := by
  unfold closeSession
  split
  · assumption
  · unfold abortLine
    split
    · rfl
    · split <;> rfl

/-- R156: opening changes the stream, the places of the store and the trunk link alone. -/
theorem openSession_frame (mode : OpenMode) (s : State) :
    ∃ places dst session wait notices line cache aborted opens, openSession mode s =
      { s with
        dls.places := places, dst := dst
        trk.session := session, trk.streamWait := wait, trk.notices := notices, trk.line := line
        trk.cache := cache, trk.counters.framesAborted := aborted, trk.counters.opens := opens } := by
  unfold openSession
  obtain ⟨a, b, c, d, e, f, g, h, i, j, hc⟩ := closeSession_frame s
  rw [hc]
  unfold openClosedSession
  dsimp only
  obtain ⟨p, q, ho⟩ := streamOpen_frame mode
    { s with
      dst.waiting := a, dst.window := b, dst.timer := c, dst.state := d, dst.timeoutCount := e
      trk.session := .opened none, trk.streamWait := 0, trk.notices := h, trk.line := i
      trk.counters.framesAborted := j, trk.counters.opens := bump s.trk.counters.opens }
  rw [ho, joinAllNotices_frame]
  exact ⟨_, _, _, _, _, _, _, _, _, rfl⟩

/-- R156: after an OPEN-SESSION carried out the session is OPEN. -/
theorem openSession_isOpen (mode : OpenMode) (s : State) :
    (openSession mode s).trk.session = .opened (idleDeadlineNow (closeSession s)) := rfl

/-! ## Warm restart -/

/-- R173: a warm restart leaves alone what R191, R24, R165 and R166 keep. -/
theorem warmRestart_frame (s : State) :
    ∃ fra frb places rpf dls ftx dst alm responses cache wait notices counters, warmRestart s =
      { s with
        fra := fra, frb := frb, stab.places := places, rpf := rpf, dls := dls, ftx := ftx, dst := dst, alm := alm
        trk.responses := responses, trk.cache := cache, trk.streamWait := wait, trk.notices := notices
        trk.counters := counters } := by
  unfold warmRestart restartAlarm
  dsimp only
  rw [raise_frame]
  exact ⟨_, _, _, _, _, _, _, _, _, _, _, _, _, rfl⟩

end Sys2Proof.Machine
end

