-- ==== Sys2Proof/Laws/Events.lean ====
section
/-!
SUPPORT. What closes every event: intakes and the sender's decision. What carrying out a request may change,
and what is left of a request that is taken in at once.
-/

namespace Sys2Proof.Machine

/-! ## Intakes -/

theorem intakes_of_noIntake (n : Nat) {s : State} (h : NoIntake s) : intakes n s = s := by
  cases n with
  | zero => rfl
  | succ n =>
    unfold intakes
    split
    · rfl
    · rename_i q rest hq
      have : intakeOpen s = false := by
        rcases h with h | h | h
        · rw [h] at hq; cases hq
        · simp [intakeOpen, h]
        · simp [intakeOpen, Nat.not_lt.mpr h]
      simp [this]

/-- R151: with no request that can be taken in, nothing is. -/
theorem intakeAll_of_noIntake {s : State} (h : NoIntake s) : intakeAll s = s := intakes_of_noIntake _ h

/-- R151: with nothing held, nothing is taken in. -/
theorem intakeAll_of_noneHeld {s : State} (h : s.trk.held = []) : intakeAll s = s :=
  intakeAll_of_noIntake (.inl h)

/-- R151: the one request held is taken in when the conditions hold. -/
theorem intakeAll_one {s : State} {q : HeldRequest} (h : s.trk.held = [q]) (ho : intakeOpen s = true) :
    intakeAll s = takeIn q { s with trk.held := [] } := by
  unfold intakeAll
  rw [h]
  simp only [List.length_cons, List.length_nil, intakes, h, ho]
  rfl

/-! ## The sender -/

theorem senderDecides_of_busy {s : State} {f : LineFrame} (h : s.trk.line = some f) : senderDecides s = s := by
  simp only [senderDecides, h]

theorem senderDecides_of_idle {s : State} (h : s.trk.line = none) : senderDecides s = takeFrame s := by
  simp only [senderDecides, h]

/-- R162, fifth case: nothing to send. -/
theorem takeFrame_of_nothing {s : State} (h : NothingToSend s) : takeFrame s = s := by
  obtain ⟨h1, h2, h3⟩ := h
  simp only [takeFrame, h1, h2, h3, Bool.false_and, Bool.false_eq_true, if_false]

/-- R120, R162: a stream frame taken changes the stream, and of the trunk link the wait count, the line and its
counter alone. -/
theorem sendStream_frame (s : State) :
    ∃ waiting window next timer counters wait line sent, sendStream s =
      { s with
        dst.waiting := waiting, dst.window := window, dst.nextSequence := next, dst.timer := timer
        dst.counters := counters
        trk.streamWait := wait, trk.line := line, trk.counters.streamFramesSent := sent } := by
  unfold sendStream
  split
  · exact ⟨_, _, _, _, _, _, _, _, rfl⟩
  · rename_i q it t h
    obtain ⟨a, b, c, d, e, rfl⟩ := streamSend_frame h
    exact ⟨_, _, _, _, _, _, _, _, rfl⟩

/-- R162: the sender's decision changes the stream, and of the trunk link the response queue, the wait count,
the notice set, the line and the three send counters alone. -/
theorem takeFrame_frame (s : State) :
    ∃ waiting window next timer counters responses wait notices line r n f, takeFrame s =
      { s with
        dst.waiting := waiting, dst.window := window, dst.nextSequence := next, dst.timer := timer
        dst.counters := counters
        trk.responses := responses, trk.streamWait := wait, trk.notices := notices, trk.line := line
        trk.counters.responsesSent := r, trk.counters.noticesSent := n, trk.counters.streamFramesSent := f } := by
  have hs : ∃ waiting window next timer counters responses wait notices line r n f, sendStream s =
      { s with
        dst.waiting := waiting, dst.window := window, dst.nextSequence := next, dst.timer := timer
        dst.counters := counters
        trk.responses := responses, trk.streamWait := wait, trk.notices := notices, trk.line := line
        trk.counters.responsesSent := r, trk.counters.noticesSent := n, trk.counters.streamFramesSent := f } := by
    obtain ⟨a, b, c, d, e, f, g, h, hh⟩ := sendStream_frame s
    rw [hh]
    exact ⟨_, _, _, _, _, _, _, _, _, _, _, _, rfl⟩
  unfold takeFrame
  split
  · exact hs
  · split
    · exact ⟨_, _, _, _, _, _, _, _, _, _, _, _, rfl⟩
    · split
      · exact ⟨_, _, _, _, _, _, _, _, _, _, _, _, rfl⟩
      · split
        · exact hs
        · exact ⟨_, _, _, _, _, _, _, _, _, _, _, _, rfl⟩

/-- R161: the sender's decision, if the line is idle, has the frame of `takeFrame`. -/
theorem senderDecides_frame (s : State) :
    ∃ waiting window next timer counters responses wait notices line r n f, senderDecides s =
      { s with
        dst.waiting := waiting, dst.window := window, dst.nextSequence := next, dst.timer := timer
        dst.counters := counters
        trk.responses := responses, trk.streamWait := wait, trk.notices := notices, trk.line := line
        trk.counters.responsesSent := r, trk.counters.noticesSent := n, trk.counters.streamFramesSent := f } := by
  unfold senderDecides
  split
  · exact ⟨_, _, _, _, _, _, _, _, _, _, _, _, rfl⟩
  · exact takeFrame_frame s

/-- With nothing held, the end of an event is the sender's decision. -/
theorem settle_of_noneHeld {s : State} (h : s.trk.held = []) : settle s = senderDecides s := by
  unfold settle
  rw [intakeAll_of_noneHeld h]
  obtain ⟨_, _, _, _, _, _, _, _, _, _, _, _, hd⟩ := senderDecides_frame s
  refine intakeAll_of_noneHeld ?_
  rw [hd]
  exact h

/-! ## Events and the clock -/

/-- R190, R196: the part takes events exactly while it is running. -/
theorem takesEvents_iff {s : State} : s.takesEvents = true ↔ Running s := by
  simp [State.takesEvents, Running]

/-- What an event does to a part that is running: the effect, then the closing. -/
theorem event_running {s : State} (h : Running s) (f : State → State) : event f s = .next (settle (f s)) := by
  simp [event, takesEvents_iff.mpr h]

/-- R190: while REFCLK is stopped an event does not happen. -/
theorem event_stopped {s : State} (h : s.tbs.refclkRunning = false) (f : State → State) : event f s = .next s := by
  simp [event, State.takesEvents, h]

/-- R196: while the part is held in full reset an event does not happen. -/
theorem event_held {s : State} (h : s.inReset = true) (f : State → State) : event f s = .next s := by
  simp [event, State.takesEvents, h]

/-- R190: while REFCLK is stopped no transmit tick passes. -/
theorem idleTick_stopped {s : State} (h : s.tbs.refclkRunning = false) : idleTick s = s := by simp [idleTick, h]

theorem idleTick_running {s : State} (h : s.tbs.refclkRunning = true) : idleTick s = transmitTick s := by
  simp [idleTick, h]

/-- R190: REFCLK runs again for a part that is not held: the clock runs, and the event is closed. -/
theorem startRefclk_running {s : State} (h : s.inReset = false) :
    startRefclk s = settle { s with tbs.refclkRunning := true } := by simp [startRefclk, h]

/-- R197: REFCLK starts for a part that is held: the reset that has been released ends. -/
theorem startRefclk_held {s : State} (h : s.inReset = true) :
    startRefclk s = match s.tbs.release with
      | some (rsel1, rsel0) => State.afterReset rsel1 rsel0 s.pending
      | none => { s with tbs.refclkRunning := true } := by
  cases hr : s.tbs.release <;> simp [startRefclk, h, hr]

/-! ## What carrying out a request may change -/

/-- A request changes no more than this: the time base, the hold in reset, the queue of commands, and of the
trunk link the assembler, the held requests and the responses stay as they are. -/
def RequestFrame (s t : State) : Prop :=
  ∃ profile fra frb stab rpf dls ftx dst mre alm cache session idle wait notices line counters, t =
    { s with
      profile := profile, fra := fra, frb := frb, stab := stab, rpf := rpf, dls := dls, ftx := ftx, dst := dst
      mre := mre, alm := alm
      trk.cache := cache, trk.session := session, trk.sessionIdleS := idle, trk.streamWait := wait
      trk.notices := notices, trk.line := line, trk.counters := counters }

theorem RequestFrame.rfl {s : State} : RequestFrame s s :=
  ⟨_, _, _, _, _, _, _, _, _, _, _, _, _, _, _, _, _, Eq.refl _⟩

theorem RequestFrame.trans {s t u : State} (h : RequestFrame s t) (g : RequestFrame t u) : RequestFrame s u := by
  obtain ⟨_, _, _, _, _, _, _, _, _, _, _, _, _, _, _, _, _, rfl⟩ := h
  obtain ⟨_, _, _, _, _, _, _, _, _, _, _, _, _, _, _, _, _, rfl⟩ := g
  exact ⟨_, _, _, _, _, _, _, _, _, _, _, _, _, _, _, _, _, Eq.refl _⟩

theorem done_snd (bs : List Byte) (s : State) : (done bs s).2 = s := rfl

theorem frame_ite {c : Prop} [Decidable c] {s : State} {x y : Reply × State} (hx : RequestFrame s x.2)
    (hy : RequestFrame s y.2) : RequestFrame s (if c then x else y).2 := by
  split <;> assumption

/-- R151: what the request engine is given at intake stays as it was: each request's own change is within
`RequestFrame`. -/
theorem setParam_frame (p : Param) (v : Nat) (s : State) : RequestFrame s (setParam p v s) := by
  cases p
  case rxEnableA =>
    simp only [setParam, setEnable, enableReceiver, disableReceiver]
    split
    · split <;> exact ⟨_, _, _, _, _, _, _, _, _, _, _, _, _, _, _, _, _, Eq.refl _⟩
    · split <;> exact ⟨_, _, _, _, _, _, _, _, _, _, _, _, _, _, _, _, _, Eq.refl _⟩
  case rxEnableB =>
    simp only [setParam, setEnable, enableReceiver, disableReceiver]
    split
    · split <;> exact ⟨_, _, _, _, _, _, _, _, _, _, _, _, _, _, _, _, _, Eq.refl _⟩
    · split <;> exact ⟨_, _, _, _, _, _, _, _, _, _, _, _, _, _, _, _, _, Eq.refl _⟩
  case sessionIdleS =>
    simp only [setParam]
    obtain ⟨d, h⟩ := restartIdle_frame { s with trk.sessionIdleS := v }
    rw [h]
    exact ⟨_, _, _, _, _, _, _, _, _, _, _, _, _, _, _, _, _, Eq.refl _⟩
  case level c =>
    simp only [setParam, setLevel]
    split
    · exact ⟨_, _, _, _, _, _, _, _, _, _, _, _, _, _, _, _, _, Eq.refl _⟩
    · split
      · rw [joinNotice_frame]; exact ⟨_, _, _, _, _, _, _, _, _, _, _, _, _, _, _, _, _, Eq.refl _⟩
      · exact ⟨_, _, _, _, _, _, _, _, _, _, _, _, _, _, _, _, _, Eq.refl _⟩
  all_goals exact ⟨_, _, _, _, _, _, _, _, _, _, _, _, _, _, _, _, _, Eq.refl _⟩

theorem dropStation_frame (i : Fin 64) (id : StationId) (s : State) : RequestFrame s (dropStation i id s) := by
  unfold dropStation
  obtain ⟨_, _, _, _, _, h⟩ := closureClaim_frame id (setPlace i none s)
  obtain ⟨_, _, _, g⟩ := discardClaim_frame id (closureClaim id (setPlace i none s))
  rw [g, h]
  exact ⟨_, _, _, _, _, _, _, _, _, _, _, _, _, _, _, _, _, Eq.refl _⟩

theorem endTest_frame (s : State) : RequestFrame s (endTest s) := by
  unfold endTest
  rw [arbiter_frame]
  exact ⟨_, _, _, _, _, _, _, _, _, _, _, _, _, _, _, _, _, Eq.refl _⟩

/-- R156, R169: an OPEN-SESSION carried out. -/
theorem openSession_requestFrame (mode : OpenMode) (s : State) : RequestFrame s (openSession mode s) := by
  obtain ⟨_, _, _, _, _, _, _, _, _, h⟩ := openSession_frame mode s
  rw [h]
  exact ⟨_, _, _, _, _, _, _, _, _, _, _, _, _, _, _, _, _, Eq.refl _⟩

theorem clearGroup_frame (g : CounterGroup) (s : State) : RequestFrame s (clearGroup g s) := by
  cases g <;> exact ⟨_, _, _, _, _, _, _, _, _, _, _, _, _, _, _, _, _, Eq.refl _⟩

theorem reqOpenSession_frame (args : List Byte) (s : State) : RequestFrame s (reqOpenSession args s).2 := by
  unfold reqOpenSession
  split
  · split
    · exact .rfl
    · exact openSession_requestFrame _ _
  · exact .rfl

theorem reqSetParameter_frame (args : List Byte) (s : State) : RequestFrame s (reqSetParameter args s).2 := by
  unfold reqSetParameter
  split
  · exact .rfl
  · split
    · exact .rfl
    · split
      · exact .rfl
      · split
        · exact .rfl
        · exact setParam_frame _ _ _

theorem putStation_frame (id : StationId) (settings : Settings) (s : State) :
    RequestFrame s (putStation id settings s).2 := by
  unfold putStation
  split
  · exact ⟨_, _, _, _, _, _, _, _, _, _, _, _, _, _, _, _, _, Eq.refl _⟩
  · split
    · exact .rfl
    · exact ⟨_, _, _, _, _, _, _, _, _, _, _, _, _, _, _, _, _, Eq.refl _⟩

theorem reqPutStation_frame (args : List Byte) (s : State) : RequestFrame s (reqPutStation args s).2 := by
  rcases args with _ | ⟨a1, args⟩; · exact .rfl
  rcases args with _ | ⟨a2, args⟩; · exact .rfl
  rcases args with _ | ⟨a3, args⟩; · exact .rfl
  rcases args with _ | ⟨a4, args⟩; · exact .rfl
  rcases args with _ | ⟨a5, args⟩; · exact .rfl
  rcases args with _ | ⟨a6, args⟩; · exact .rfl
  rcases args with _ | ⟨a7, args⟩; · exact .rfl
  rcases args with _ | ⟨a8, args⟩; · exact .rfl
  rcases args with _ | ⟨a9, args⟩; · exact .rfl
  rcases args with _ | ⟨a10, args⟩; · exact .rfl
  rcases args with _ | ⟨a11, args⟩; · exact .rfl
  rcases args with _ | ⟨a12, args⟩; · exact .rfl
  rcases args with _ | ⟨a13, args⟩
  · change RequestFrame s (match modeOf a4, boolOf a9 with
      | some mode, some reply => _
      | none, _ => _
      | some _, none => _ : Reply × State).2
    split
    · exact frame_ite (putStation_frame _ _ _) .rfl
    all_goals exact .rfl
  · exact .rfl

theorem reqDropStation_frame (args : List Byte) (s : State) : RequestFrame s (reqDropStation args s).2 := by
  unfold reqDropStation
  split
  · refine frame_ite .rfl ?_
    split
    · exact .rfl
    · refine frame_ite .rfl ?_
      rw [done_snd]
      exact dropStation_frame _ _ _
  · exact .rfl

theorem queueDownlink_frame (id : StationId) (hostTag : Byte) (attempts lifetimeS : Nat) (payload : List Byte)
    (s : State) : RequestFrame s (queueDownlink id hostTag attempts lifetimeS payload s).2 := by
  unfold queueDownlink
  split
  · exact .rfl
  · refine frame_ite .rfl (frame_ite .rfl ?_)
    split
    · exact .rfl
    · exact ⟨_, _, _, _, _, _, _, _, _, _, _, _, _, _, _, _, _, Eq.refl _⟩

theorem reqQueueDownlink_frame (args : List Byte) (s : State) : RequestFrame s (reqQueueDownlink args s).2 := by
  rcases args with _ | ⟨a1, args⟩; · exact .rfl
  rcases args with _ | ⟨a2, args⟩; · exact .rfl
  rcases args with _ | ⟨a3, args⟩; · exact .rfl
  rcases args with _ | ⟨a4, args⟩; · exact .rfl
  rcases args with _ | ⟨a5, args⟩; · exact .rfl
  rcases args with _ | ⟨a6, args⟩; · exact .rfl
  rcases args with _ | ⟨a7, args⟩; · exact .rfl
  rcases args with _ | ⟨a8, args⟩; · exact .rfl
  exact frame_ite .rfl (frame_ite (queueDownlink_frame _ _ _ _ _ _) .rfl)

theorem cancelSlot_frame (i : Fin 16) (s : State) : RequestFrame s (cancelSlot i s).2 := by
  unfold cancelSlot
  split
  all_goals exact ⟨_, _, _, _, _, _, _, _, _, _, _, _, _, _, _, _, _, Eq.refl _⟩

theorem reqCancelDownlink_frame (args : List Byte) (s : State) : RequestFrame s (reqCancelDownlink args s).2 := by
  unfold reqCancelDownlink
  split
  · split
    · exact .rfl
    · exact .rfl
    · exact cancelSlot_frame _ _
  · exact .rfl

theorem carrierTest_frame (ms : Nat) (s : State) : RequestFrame s (carrierTest ms s).2 := by
  unfold carrierTest
  split
  all_goals exact ⟨_, _, _, _, _, _, _, _, _, _, _, _, _, _, _, _, _, Eq.refl _⟩

theorem reqCarrierTest_frame (args : List Byte) (s : State) : RequestFrame s (reqCarrierTest args s).2 := by
  unfold reqCarrierTest
  split
  · exact frame_ite (carrierTest_frame _ _) .rfl
  · exact .rfl

theorem reqCarrierStop_frame (args : List Byte) (s : State) : RequestFrame s (reqCarrierStop args s).2 := by
  unfold reqCarrierStop
  split
  · split
    · rw [done_snd]; exact endTest_frame _
    all_goals exact .rfl
  · exact .rfl

/-- R151, R167: carrying out a request. -/
theorem carryOut_frame (code : Byte) (args : List Byte) (s : State) :
    RequestFrame s (carryOut code args s).2 := by
  have hClose : RequestFrame s (reqCloseSession args s).2 := by
    unfold reqCloseSession; split
    · exact ⟨_, _, _, _, _, _, _, _, _, _, _, _, _, _, _, _, _, Eq.refl _⟩
    · exact .rfl
  have hStatus : RequestFrame s (reqGetStatus args s).2 := by
    unfold reqGetStatus; split <;> exact .rfl
  have hRestart : RequestFrame s (reqWarmRestart args s).2 := by
    unfold reqWarmRestart; split
    · exact ⟨_, _, _, _, _, _, _, _, _, _, _, _, _, _, _, _, _, Eq.refl _⟩
    · exact .rfl
  have hGet : RequestFrame s (reqGetParameter args s).2 := by
    unfold reqGetParameter; split
    · split <;> exact .rfl
    · exact .rfl
  have hStation : RequestFrame s (reqGetStation args s).2 := by
    unfold reqGetStation; split
    · dsimp only; split
      · exact .rfl
      · split <;> exact .rfl
    · exact .rfl
  have hList : RequestFrame s (reqListStations args s).2 := by
    unfold reqListStations; split
    · split <;> exact .rfl
    · exact .rfl
  have hDownlink : RequestFrame s (reqGetDownlink args s).2 := by
    unfold reqGetDownlink; split
    · split <;> exact .rfl
    · exact .rfl
  have hCauses : RequestFrame s (reqGetCauses args s).2 := by
    unfold reqGetCauses; split <;> exact .rfl
  have hClear : RequestFrame s (reqClearCause args s).2 := by
    unfold reqClearCause; split
    · split
      · exact .rfl
      · exact ⟨_, _, _, _, _, _, _, _, _, _, _, _, _, _, _, _, _, Eq.refl _⟩
    · exact .rfl
  have hCounters : RequestFrame s (reqGetCounters args s).2 := by
    unfold reqGetCounters; split
    · split <;> exact .rfl
    · exact .rfl
  have hClears : RequestFrame s (reqClearCounters args s).2 := by
    unfold reqClearCounters; split
    · split
      · exact .rfl
      · exact clearGroup_frame _ _
    · exact .rfl
  unfold carryOut
  exact frame_ite (reqOpenSession_frame _ _) (frame_ite hClose (frame_ite hStatus (frame_ite hRestart
    (frame_ite (reqSetParameter_frame _ _) (frame_ite hGet (frame_ite (reqPutStation_frame _ _)
    (frame_ite (reqDropStation_frame _ _) (frame_ite hStation (frame_ite hList
    (frame_ite (reqQueueDownlink_frame _ _) (frame_ite (reqCancelDownlink_frame _ _) (frame_ite hDownlink
    (frame_ite hCauses (frame_ite hClear (frame_ite hCounters (frame_ite hClears
    (frame_ite (reqCarrierTest_frame _ _) (reqCarrierStop_frame _ _))))))))))))))))))

/-- R151: judging a request, refusals included. -/
theorem judgeRequest_frame (code : Byte) (args : List Byte) (s : State) :
    RequestFrame s (judgeRequest code args s).2 := by
  unfold judgeRequest
  split
  · exact .rfl
  · split
    · exact .rfl
    · exact carryOut_frame _ _ _

/-! ## What an intake may change -/

/-- R151, R152: an intake changes no more than judging the request does, and the response queue. -/
theorem takeIn_frame (q : HeldRequest) (s : State) :
    ∃ t responses, RequestFrame s t ∧ takeIn q s = { t with trk.responses := responses } := by
  unfold takeIn
  split
  · exact ⟨s, _, .rfl, rfl⟩
  · rename_i code args _
    split
    · exact ⟨{ s with trk.counters.duplicates := bump s.trk.counters.duplicates }, _,
        ⟨_, _, _, _, _, _, _, _, _, _, _, _, _, _, _, _, _, rfl⟩, rfl⟩
    · unfold answerAfresh recordResponse pushResponse
      dsimp only
      have hj := judgeRequest_frame code args s
      split
      · exact ⟨_, _, hj, rfl⟩
      · refine ⟨{ (judgeRequest code args s).2 with trk.cache := _ }, _, hj.trans ?_, rfl⟩
        exact ⟨_, _, _, _, _, _, _, _, _, _, _, _, _, _, _, _, _, rfl⟩

/-- R151: an intake leaves the requests still held. -/
theorem takeIn_held (q : HeldRequest) (s : State) : (takeIn q s).trk.held = s.trk.held := by
  obtain ⟨t, r, ⟨_, _, _, _, _, _, _, _, _, _, _, _, _, _, _, _, _, rfl⟩, h⟩ := takeIn_frame q s
  rw [h]

/-- R151: while the conditions hold, the oldest request is taken in and the intakes go on. -/
theorem intakeAll_cons {s : State} {q : HeldRequest} {rest : List HeldRequest} (h : s.trk.held = q :: rest)
    (ho : intakeOpen s = true) : intakeAll s = intakeAll (takeIn q { s with trk.held := rest }) := by
  unfold intakeAll
  rw [takeIn_held, h]
  simp only [List.length_cons, intakes, h, ho, if_true]

theorem intakes_noIntake (n : Nat) : ∀ s : State, s.trk.held.length ≤ n → NoIntake (intakes n s) := by
  induction n with
  | zero => intro s h; exact .inl (List.eq_nil_of_length_eq_zero (Nat.le_zero.mp h))
  | succ n ih =>
    intro s h
    simp only [intakes]
    split
    · exact .inl ‹_›
    · rename_i q rest hq
      split
      · refine ih _ ?_
        rw [takeIn_held]
        simpa [hq] using h
      · rename_i ho
        by_cases hm : s.mre = .ready
        · exact .inr (.inr (by simpa [intakeOpen, hm] using ho))
        · exact .inr (.inl hm)

/-- R151: after the intakes, none is left that the conditions allow. -/
theorem intakeAll_noIntake (s : State) : NoIntake (intakeAll s) := intakes_noIntake _ s (Nat.le_refl _)

/-- R162: the sender that has anything to send puts a frame on the line. -/
theorem takeFrame_sends (s : State) : (takeFrame s).trk.line ≠ none ∨ takeFrame s = s := by
  have hs : (sendStream s).trk.line ≠ none ∨ sendStream s = s := by
    unfold sendStream
    split
    · exact .inr rfl
    · exact .inl (by simp)
  unfold takeFrame
  split
  · exact hs
  · split
    · exact .inl (by simp [sendResponse])
    · split
      · exact .inl (by simp [sendNotice])
      · split
        · exact hs
        · exact .inr rfl

/-! ## A request taken in at once -/

/-- The opening delimiter of a frame on a clean assembler begins a new content (R148). -/
theorem openingDelimiter_clean {s : State}
    (h : s.trk.assembler = .hunt ∨ s.trk.assembler = .collecting [] false) : openingDelimiter s = newContent s := by
  rcases h with h | h <;> simp only [openingDelimiter, h]

/-- A REQUEST frame on a clean assembler, with fewer than two requests held, joins the buffer (R150). -/
theorem requestFrame_held {s : State} {tag : Byte} {body : List Byte}
    (h : s.trk.assembler = .hunt ∨ s.trk.assembler = .collecting [] false) (hb : body.length ≤ 80)
    (hh : s.trk.held.length < 2) :
    frameArrives 0x01 tag body s =
      { counted s with trk.held := s.trk.held ++ [{ tag := tag, body := body }] } := by
  have key : ∀ t : State, t.trk.held = s.trk.held → (countValid t).trk.held = s.trk.held := by
    intro t ht
    unfold countValid
    obtain ⟨d, hd⟩ := restartIdle_frame { t with trk.counters.validFrames := bump t.trk.counters.validFrames }
    rw [hd]
    exact ht
  have hc := key (newContent s) rfl
  unfold frameArrives receiveFrame
  rw [openingDelimiter_clean h, if_neg (Nat.not_lt.mpr hb), if_neg (by decide), if_pos rfl]
  change holdRequest tag body (countValid (newContent s)) = _
  unfold holdRequest
  rw [if_pos (by rw [hc]; exact hh), hc]
  rfl

end Sys2Proof.Machine
end

