-- ==== Sys2Proof/Laws/Trunk.lean ====
section
/-!
SUPPORT. The trunk receiver: what a byte received on TRXD and the sampling of the line can change.
-/

namespace Sys2Proof.Machine

/-! ## What a byte leaves to the receiver -/

theorem raise_sampler (c : Cause) (s : State) : (raise c s).trk.sampler = s.trk.sampler := by rw [raise_frame]

theorem countValid_sampler (s : State) : (countValid s).trk.sampler = s.trk.sampler := by
  unfold countValid
  obtain ⟨x, h⟩ := restartIdle_frame { s with trk.counters.validFrames := bump s.trk.counters.validFrames }
  rw [h]

theorem discardContent_sampler (f : ContentFault) (s : State) :
    (discardContent f s).trk.sampler = s.trk.sampler := raise_sampler _ _

theorem takeLineError_sampler (s : State) : (takeLineError s).trk.sampler = s.trk.sampler := raise_sampler _ _

theorem receiveFrame_sampler (kind tag : Byte) (body : List Byte) (s : State) :
    (receiveFrame kind tag body s).trk.sampler = s.trk.sampler := by
  unfold receiveFrame
  split
  · exact discardContent_sampler _ _
  · split
    · split
      · obtain ⟨_, _, h⟩ := takeAck_frame tag (countValid (newContent s))
        rw [h]
        exact countValid_sampler _
      · rfl
    · split
      · unfold holdRequest
        split
        · exact countValid_sampler _
        · rw [raise_sampler]
          exact countValid_sampler _
      · rfl

/-- R148: a byte leaves the sampling of the line as it is. -/
theorem byteEffect_sampler (b : Byte) (s : State) : (byteEffect b s).trk.sampler = s.trk.sampler := by
  have he : ∀ content, (endContent content s).trk.sampler = s.trk.sampler := by
    intro content
    unfold endContent
    split
    · rfl
    · split
      · exact discardContent_sampler _ _
      · dsimp only
        split
        · exact receiveFrame_sampler _ _ _ _
        · exact discardContent_sampler _ _
    · exact discardContent_sampler _ _
  have ha : ∀ content c, (addContent content c s).trk.sampler = s.trk.sampler := by
    intro content c
    unfold addContent
    split
    · exact discardContent_sampler _ _
    · rfl
  unfold byteEffect
  repeat' split
  all_goals first
    | rfl
    | exact he _
    | exact ha _ _
    | exact discardContent_sampler _ _

/-! ## Sampling (R146, R195) -/

/-- A receiver that is in no byte samples nothing. -/
theorem takeSamples_of_quiet (due : Nat → Bool) (n : Nat) {s : State}
    (h : s.trk.sampler = .idle ∨ s.trk.sampler = .broken) : takeSamples due n s = s := by
  cases n with
  | zero => rfl
  | succ n => rcases h with h | h <;> simp only [takeSamples, h]

/-- R146, R195: the samples of a line move the receiver within its byte, or complete that byte, or find one line
error. -/
theorem takeSamples_frame (due : Nat → Bool) (n : Nat) : ∀ s : State,
    (∃ x, takeSamples due n s = setSampler x s) ∨
    (∃ b, takeSamples due n s = byteEffect b (setSampler .idle s)) ∨
    takeSamples due n s = takeLineError (setSampler .broken s) := by
  induction n with
  | zero => exact fun s => .inl ⟨s.trk.sampler, rfl⟩
  | succ n ih =>
    intro s
    cases hs : s.trk.sampler with
    | idle => exact .inl ⟨s.trk.sampler, takeSamples_of_quiet _ _ (.inl hs)⟩
    | broken => exact .inl ⟨s.trk.sampler, takeSamples_of_quiet _ _ (.inr hs)⟩
    | receiving start level bits =>
      simp only [takeSamples, hs]
      split
      · unfold takeSample
        split
        · simpa using ih (setSampler (.receiving start level (bits ++ [level])) s)
        · split
          · exact .inr (.inl ⟨_, takeSamples_of_quiet _ _ (.inl (byteEffect_sampler _ _))⟩)
          · exact .inr (.inr (takeSamples_of_quiet _ _ (.inr (takeLineError_sampler _))))
      · exact .inl ⟨s.trk.sampler, rfl⟩

/-- R146, R195: an edge of TRXD first brings the samples that come before it, and then moves the receiver
alone. -/
theorem trunkEdge_frame (rising : Bool) (time : Nat) (s : State) :
    ∃ x, trunkEdge rising time s = setSampler x (takeSamples (beforeEdge time) 9 s) := by
  unfold trunkEdge
  dsimp only
  split
  · split
    · exact ⟨_, rfl⟩
    · exact ⟨_, rfl⟩
  · exact ⟨_, rfl⟩
  · split <;> exact ⟨_, rfl⟩

end Sys2Proof.Machine
end

