-- ==== Sys2Proof/Tests/Slice0.lean ====
section
/-!
SUPPORT. Tests of the model: what WellFormed refuses, examples of the manual with the numbers the manual gives
(each test names its place), and, for every statement with hypotheses, a state and operands that meet them.
-/

namespace Sys2Proof.Tests

open Sys2Proof Sys2Proof.Machine

set_option Elab.async false

/-! ## Small states -/

/-- The command answers a next state that passes a check. -/
def leads (o : Host.Outcome State Fault Refusal) (p : State → Bool) : Bool :=
  match o with
  | .next t => p t
  | .fault _ => false
  | .refused _ => false

/-- The part at a part time, its session OPEN with an absent idle deadline. -/
def opened (time : PartTime) : State :=
  { State.reset with tbs.partTime := time, trk.session := .opened none }

/-- The settings of station 0x2200C1 in section 12.2. -/
def settings : Settings :=
  { mode := .immediate, gatherMs := 200, repeatMs := 3000, replyEnabled := true, replyDelayMs := 15,
    copySpacingMs := 40, windowWidthMs := 8 }

/-- An entry of a station with these settings and this mode. -/
def entryOf (id : StationId) (mode : Mode) : Entry := newEntry id .pinned { settings with mode := mode }

/-- A place of the table is filled. -/
def withEntry (i : Fin 64) (e : Entry) (s : State) : State := setPlace i (some e) s

/-- A slot place is filled. -/
def place (i : Fin 16) (generation : Byte) (st : SlotState) (s : State) : State :=
  { s with dls.places := s.dls.places.set i { generation := generation, state := st } }

/-- The downlink of section 12.2. -/
def downlink : Downlink :=
  { station := 0x2200C1, hostTag := 9, sequence := 37, payload := [1, 2], attemptsLeft := 3, transmissions := 0,
    lifetimeDeadline := 700000, order := 0 }

/-- A copy of station 0x0A0010, sequence 17, as in the check example of chapter 11. -/
def shortCopy : Copy :=
  { channel := .A, station := 0x0A0010, sequence := 17, listen := true, urgent := false, remaining := 0,
    confirm := none, payload := [], check := 0x479C, endTime := 200000, margin := 9 }

/-- An uplink of station 0x2200C1 as in section 12.2. -/
def uplink (sequence : Byte) (listen : Bool) (confirm : Option Byte) (time : PartTime) : Copy :=
  { channel := .B, station := 0x2200C1, sequence := sequence, listen := listen, urgent := false, remaining := 1,
    confirm := confirm, payload := [], check := 0, endTime := time, margin := 15 }

/-- A TELEGRAM item with this sequence and URGENT flag. -/
def telegram (sequence : Byte) (urgent : Bool) : Item :=
  .telegram
    { station := 0x0A0010, origin := some .pinned, sequence := sequence,
      control := { listen := false, urgent := urgent, remaining := 0 }, confirm := none, payload := [],
      copies := 1, channels := .a, bestMargin := 15, firstEnd := 0, conflict := false, earlyClose := false }

/-- A frame on the line that concludes nothing. -/
def busy : Option LineFrame := some { content := .delivery 0 (telegram 1 false), aborted := false }

/-- The OUTCOME item of a slot. -/
def outcome (slot : Fin 16) : Item :=
  .outcome
    { slot := slot, generation := 0, hostTag := 9, station := 0x2200C1, sequence := 37, result := .confirmed,
      transmissions := 2, time := 0 }

/-- A record of station 0x0A0010. -/
def record (sequence : Byte) (state : RecordState) : Record :=
  { station := 0x0A0010, sequence := sequence, check := 0x479C, firstEnd := 200000, state := state, copies := 1,
    channels := .b, bestMargin := 9, conflict := false, origin := some .pinned,
    control := { listen := true, urgent := false, remaining := 0 }, confirm := none, payload := [],
    settleDeadline := 203000 }

/-- A receiver's tracking after a cell at this place, with this soft-cell count. -/
def tracking (cellRef softCells : Nat) : Tracking :=
  { snap := resetProfile.snapshot, cellRef := cellRef, progress := .fresh, softCells := softCells }

/-! ## What WellFormed refuses -/

theorem test_wf_copy_reserved_station : (Instr.copy { shortCopy with station := 0xFFFFFF }).wf = false := by decide

theorem test_wf_copy_long_payload :
    (Instr.copy { shortCopy with payload := List.replicate 33 0 }).wf = false := by decide

theorem test_wf_gatherDeadline_reserved : (Instr.gatherDeadline 0 1).wf = false := by decide

theorem test_wf_settleDeadline_reserved : (Instr.settleDeadline 0xFFFFFF 1).wf = false := by decide

theorem test_wf_badKind_request : (Instr.badKind 0x01 0 []).wf = false := by decide

theorem test_wf_badKind_ack : (Instr.badKind 0x02 0 []).wf = false := by decide

theorem test_wf_badKind_long : (Instr.badKind 0x81 0 (List.replicate 81 0)).wf = false := by decide

theorem test_wf_requestFrame_long : (Instr.requestFrame 0 (List.replicate 81 0)).wf = false := by decide

theorem test_wf_duplicate_tag_zero : (Instr.duplicate 0 0x12 []).wf = false := by decide

theorem test_wf_duplicate_long : (Instr.duplicate 1 0x12 (List.replicate 80 0)).wf = false := by decide

theorem test_wf_undefinedRequest_defined : (Instr.undefinedRequest 0 [0x12]).wf = false := by decide

theorem test_wf_undefinedRequest_long : (Instr.undefinedRequest 0 (List.replicate 81 0)).wf = false := by decide

theorem test_wf_setParameter_long : (Instr.setParameter 0 1 (List.replicate 79 0)).wf = false := by decide

theorem test_wf_queueDownlink_long :
    (Instr.queueDownlink 0 1 1 1 1 (List.replicate 72 0)).wf = false := by decide

theorem test_wf_accepts_a_copy : (Instr.copy shortCopy).wf = true := by decide

/-- The opcode table gives its rows no bits, so no word spells a command (log entry 15). -/
theorem test_decode_no_row_has_bits : decodeTableWord 8 0 = none := rfl

/-! ## Layouts (chapter 11) -/

/-- Chapter 11, check of a short uplink: the register after each byte. -/
theorem test_check_of_a_short_uplink :
    [0x05, 0x80, 0x0A, 0x00, 0x10, 0x11].scanl (checkByte 0x2F15) 0xFFFF =
      ([0xFFFF, 0x235F, 0xB74F, 0xBDF6, 0x04F6, 0xE52E, 0x479C] : List Word16) := by decide

/-- Chapter 11, the same example: with r = 2 the normalised check is still 0x479C. -/
theorem test_normalised_check :
    normalisedCheck { shortCopy with remaining := 2 } 0x2F15 0xFFFF = 0x479C := by decide +kernel

/-- Chapter 11, an ACK on the line. -/
theorem test_ack_on_the_line :
    onLine (withFrameCheck [0x02, 0xA5]) = [0xA5, 0x02, 0xA6, 0x85, 0xF1, 0x40, 0xA5] := by decide +kernel

/-- Section 5.4: the empty downlink of 96 cells at one half-bit tick under MANCHESTER has 192 ticks. -/
theorem test_downlink_length :
    (TxSnapshot.levels
      { params := { resetTxParams with halfBitTicks := 1 }, checkPoly := 0x2F15, checkInit := 0xFFFF,
        station := 0x21004A, sequence := 0, payload := [] }).length = 192 := by decide +kernel

/-- Section 1.5: the table of judgements with last sequence 250. -/
theorem test_judgements :
    [3, 121, 122, 200, 250].map (judge (some 250)) =
      [Judgement.new, .new, .stale, .stale, .lateRepeat] := by decide

/-- Section 10.2: the lifetime deadline 2504 across the wrap, judged at three moments. -/
theorem test_reached_across_the_wrap :
    after 4294966800 3000 = 2504 ∧
      [4294967200, 2503, 2504].map (fun t => reached t 2504) = [false, false, true] := by decide

/-- R206: the cause numbers 1 to 8 name the eight causes and 0 and 9 none. -/
theorem test_cause_numbers :
    [0, 1, 5, 8, 9].map causeOf =
      [none, some Cause.restarted, some .linkStall, some .downlinkMissed, none] := by decide

/-- R207: some parameter numbers. -/
theorem test_parameter_numbers :
    [0x00, 0x02, 0x18, 0x42, 0x51, 0x58, 0x59].map paramOf =
      [none, some Param.unknownWindowMs, some .rxEnableB, some .errorBurstLimit, some (.level .restarted),
        some (.level .downlinkMissed), none] := by decide

/-! ## Resets and time -/

/-- R196: FULL_RESET puts the lines to their resting levels. -/
theorem test_fullReset_lines :
    leads (exec .fullReset { opened 5 with ftx.keyLine := true, ftx.enLine := true, alm.attn := true })
      (fun t => t.inReset && !t.ftx.keyLine && !t.ftx.enLine && !t.alm.attn && t.tbs.partTime == 0) = true := by
  decide

/-- R189: RSEL1 high and RSEL0 low give 12 MHz and 115200 bit/s. -/
theorem test_fullResetEnd_rates :
    leads (exec (.fullResetEnd true false) (opened 5))
      (fun t => t.tbs.refclkMHz == 12 && t.tbs.trunkRate == 115200 && t.trk.session == .closed) = true := by
  decide

/-- R191: part time wraps. -/
theorem test_partTimeAdvance_wraps :
    leads (exec .partTimeAdvance (opened 0xFFFFFFFF)) (fun t => t.tbs.partTime == 0) = true := by decide

/-- R190: with REFCLK stopped part time does not advance. -/
theorem test_partTimeAdvance_stopped :
    leads (exec .partTimeAdvance (stopRefclk (opened 7))) (fun t => t.tbs.partTime == 7) = true := by decide

/-- R190: with REFCLK stopped no transmit tick passes and FTX_KEY holds its level. -/
theorem test_step_stopped :
    leads (step { stopRefclk (opened 7) with ftx.state := .stopping [true, false], ftx.keyLine := true })
      (fun t => t.ftx.state == .stopping [true, false] && t.ftx.keyLine) = true := by decide

/-- R197: a reset released with REFCLK stopped ends when REFCLK starts. -/
theorem test_fullResetEnd_waits :
    leads (exec (.fullResetEnd false true) (stopRefclk (holdInReset (opened 5))))
      (fun t => t.inReset && leads (exec (.cellDecoded .A (.refclk true)) t)
        (fun u => !u.inReset && u.tbs.refclkMHz == 8)) = true := by decide

/-- R194: the per-second boundary sets the burst count to 0. -/
theorem test_perSecondBoundary :
    leads (exec .perSecondBoundary { opened 41000 with alm.burstCount := 4 }) (fun t => t.alm.burstCount == 0) =
      true := by decide

/-- Section 7, example: at 805000 the next re-notify deadline is 815000 and cause 8 joins the notice set
(the line is busy, so the notice is not taken). -/
theorem test_renotifyDeadline :
    leads (exec .renotifyDeadline
        { raise .downlinkMissed { opened 805000 with trk.line := busy } with
          alm.renotifyDeadline := 805000, trk.notices := Vector.replicate 8 false })
      (fun t => t.alm.renotifyDeadline == 815000 && inNotices t .downlinkMissed &&
        !inNotices t .learnFull) = true := by decide

/-! ## Field receivers -/

/-- R31: a lost preamble. -/
theorem test_preambleLost :
    leads (exec (.preambleLost .A) (opened 5))
      (fun t => t.fra.counters.preambleLost == 1 && t.fra.state == .hunt none && t.frb == resetReceiver) =
      true := by decide

/-- R32: a missing sync word. -/
theorem test_syncMissing :
    leads (exec (.syncMissing .B) (opened 5)) (fun t => t.frb.counters.syncMissing == 1) = true := by decide

/-- Section 7.5, example: with ERROR_BURST_LIMIT 3 the third error raises RX_ERROR_BURST. -/
theorem test_receiverError_burst :
    leads (exec (.receiverError .A .length) { opened 40990 with alm.errorBurstLimit := 3, alm.burstCount := 2 })
      (fun t => t.fra.counters.lengthErrors == 1 && t.alm.burstCount == 3 && pendingCause t .rxErrorBurst) =
      true := by decide

/-- Section 7.5, example: the fourth does not. -/
theorem test_receiverError_after_burst :
    leads (exec (.receiverError .A .check) { opened 40995 with alm.errorBurstLimit := 3, alm.burstCount := 3 })
      (fun t => t.fra.counters.checkErrors == 1 && t.alm.burstCount == 4 && !pendingCause t .rxErrorBurst) =
      true := by decide

/-- Section 2.3, example: the 12th zero of a preamble leads to SYNC. -/
theorem test_cellDecoded_reaches_sync :
    leads (exec (.cellDecoded .A (.decided false false 100))
        { opened 5 with fra.state := .preamble (tracking 0 1) 11 })
      (fun t => t.fra.state == .sync (tracking 100 1) 0 (List.replicate 16 false) 0) = true := by decide

/-- R30: under MANCHESTER a falling edge in HUNT is a clean 0 and takes the snapshot. -/
theorem test_cellDecoded_anchors :
    leads (exec (.cellDecoded .B (.edge false 7)) (opened 5))
      (fun t => t.frb.state == .preamble (tracking 7 0) 1) = true := by decide

/-! ## Copies and records -/

/-- Section 12.1: entry 3, last sequence 16; the copy of sequence 17 is accepted and gathers until 200200. -/
theorem test_copy_gathers :
    leads (exec (.copy shortCopy)
        (withEntry 3 { entryOf 0x0A0010 .gather with lastSequence := some 16 } (opened 200000)))
      (fun t => t.rpf.counters.accepted == 1 && t.rpf.records.map Record.state == [.gathering 200200] &&
        t.rpf.records.map Record.settleDeadline == [203000] &&
        (t.stab.places[3]).bind Entry.lastSequence == some 17) = true := by decide

/-- Section 12.1: the copy on the other channel is a duplicate; channels AB, best margin 12. -/
theorem test_copy_duplicate_merges :
    leads (exec (.copy { shortCopy with margin := 12, remaining := 2 })
        { withEntry 3 (entryOf 0x0A0010 .gather) (opened 200001) with
          rpf.records := [record 17 (.gathering 200200)] })
      (fun t => t.rpf.counters.duplicates == 1 && t.rpf.records.map Record.copies == [2] &&
        t.rpf.records.map Record.channels == [.ab] && t.rpf.records.map Record.bestMargin == [12] &&
        (t.stab.places[3]).map Entry.duplicates == some 1) = true := by decide +kernel

/-- Section 12.1: the gather deadline closes the record, and the idle line takes the item at once. -/
theorem test_gatherDeadline_closes :
    leads (exec (.gatherDeadline 0x0A0010 17)
        { withEntry 3 (entryOf 0x0A0010 .gather) (opened 200200) with
          rpf.records := [record 17 (.gathering 200200)], dst.nextSequence := 42 })
      (fun t => t.rpf.records.map Record.state == [.settled] && t.dst.nextSequence == 43 &&
        t.dst.timer == some 200450 && t.trk.counters.streamFramesSent == 1) = true := by decide

/-- Section 12.1: the settle deadline removes the record. -/
theorem test_settleDeadline_removes :
    leads (exec (.settleDeadline 0x0A0010 17) { opened 203000 with rpf.records := [record 17 .settled] })
      (fun t => t.rpf.records == [] && t.dst.waiting == []) = true := by decide

/-! ## Downlinks and the transmitter -/

/-- Section 12.2: at 300050 the uplink with r = 1 arms slot 2 with the window 300105 to 300113. -/
theorem test_copy_arms_a_slot :
    leads (exec (.copy (uplink 80 true none 300050))
        (withEntry 0 (entryOf 0x2200C1 .immediate) (place 2 7 (.held downlink) (opened 300050))))
      (fun t => slotState t 2 == .armed downlink 300105 300113) = true := by decide

/-- Section 12.2: at 390050 the confirm 37 gives CONFIRMED, behind the TELEGRAM item of the uplink. -/
theorem test_copy_confirms :
    leads (exec (.copy (uplink 83 false (some 37) 390050))
        { withEntry 0 (entryOf 0x2200C1 .immediate) (place 2 7
            (.awaitConfirm { downlink with attemptsLeft := 1, transmissions := 2 }) (opened 390050)) with
          trk.line := busy })
      (fun t => (slotState t 2).code == 0x05 && t.dls.counters.confirmed == 1 &&
        t.dst.waiting.map Item.isTelegram == [true, false]) = true := by decide

/-- Section 5.4, example: at 700100 slot 5 joins and is granted. -/
theorem test_windowOpen_grants :
    leads (exec (.windowOpen 5) (place 5 0 (.armed downlink 700100 700110) (opened 700100)))
      (fun t => slotState t 5 == .sending { downlink with attemptsLeft := 2, transmissions := 1 } &&
        t.ftx.candidates == [] && t.ftx.counters.started == 1 && t.ftx.keyLine && t.ftx.enLine) = true := by decide

/-- Section 5.4, example: at 700105 slot 9 joins slot 2 while the transmitter is busy. -/
theorem test_windowOpen_waits :
    leads (exec (.windowOpen 9)
        { place 9 0 (.armed downlink 700105 700200) (place 2 0 (.armed downlink 700105 700112) (opened 700105)) with
          ftx.state := .testing 700108, ftx.candidates := [2] })
      (fun t => t.ftx.candidates == [2, 9] && slotState t 9 == .armed downlink 700105 700200) = true := by decide

/-- Section 12.2: at 300113 the window of slot 2 is missed with its attempts as they were. -/
theorem test_windowClose_misses :
    leads (exec (.windowClose 2) { place 2 7 (.armed downlink 300105 300113) (opened 300113) with
        ftx.candidates := [2] })
      (fun t => slotState t 2 == .held downlink && t.ftx.candidates == [] &&
        t.dls.counters.missedWindows == 1 && pendingCause t .downlinkMissed) = true := by decide

/-- R83: a HELD downlink never sent is EXPIRED. -/
theorem test_lifetimeDeadline_expires :
    leads (exec (.lifetimeDeadline 2) (place 2 7 (.held downlink) (opened 700000)))
      (fun t => slotState t 2 == .reporting downlink .expired 700000 && t.dls.counters.expired == 1) = true := by
  decide

/-- A snapshot of the empty downlink of section 5.4. -/
def snapshot : TxSnapshot :=
  { params := { resetTxParams with halfBitTicks := 1 }, checkPoly := 0x2F15, checkInit := 0xFFFF,
    station := 0x21004A, sequence := 0, payload := [] }

/-- Section 5.4, example: at the end of slot 5 it awaits its confirm and slot 9 is granted. -/
theorem test_transmissionEnd_grants_the_next :
    leads (exec .transmissionEnd
        { place 9 0 (.armed { downlink with station := 0x2300F3, lifetimeDeadline := 800000 } 700105 700200)
            (place 5 0 (.sending { downlink with lifetimeDeadline := 800000 }) (opened 700119)) with
          ftx.state := .sending snapshot 5 192, ftx.candidates := [9], ftx.counters.started := 1 })
      (fun t => (slotState t 5).code == 0x04 && (slotState t 9).code == 0x03 && t.ftx.candidates == [] &&
        t.ftx.counters.toList == [2, 1, 0, 0]) = true := by decide +kernel

/-- R104: with a tick to send, the transmission goes on. R103: taken before WINDOW_CLOSE at the part time of a
candidate's window close, the end grants it. -/
theorem test_transmissionEnd_last_tick_and_window_close :
    leads (exec .transmissionEnd { opened 5 with ftx.state := .sending snapshot 5 191 })
      (fun t => t.ftx.state == .sending snapshot 5 191 && t.ftx.counters.completed == 0) = true ∧
    leads (exec .transmissionEnd
        { place 9 0 (.armed { downlink with station := 0x2300F3 } 700105 700119)
            (place 5 0 (.sending downlink) (opened 700119)) with
          ftx.state := .sending snapshot 5 192, ftx.candidates := [9] })
      (fun t => (slotState t 9).code == 0x03) = true := by decide +kernel

/-- Section 5.4: at the end of a carrier test the lower index of two equal window opens is granted. -/
theorem test_testEnd_grants_the_lower_index :
    leads (exec .testEnd
        { place 9 0 (.armed downlink 700105 700200) (place 2 0 (.armed downlink 700105 700112) (opened 700108)) with
          ftx.state := .testing 700108, ftx.candidates := [2, 9], ftx.keyLine := true, ftx.enLine := true })
      (fun t => (slotState t 2).code == 0x03 && t.ftx.candidates == [9]) = true := by decide

/-- R110: the cell in progress ends and both lines fall. -/
theorem test_stoppingEnd :
    leads (exec .stoppingEnd { opened 5 with ftx.state := .stopping [], ftx.keyLine := true, ftx.enLine := true })
      (fun t => t.ftx.state == .idle && !t.ftx.keyLine && !t.ftx.enLine) = true := by decide

/-! ## Delivery stream -/

/-- A window of the example of section 6.6 at 500040: U1 254, T1 255, O1 0. -/
def busyStream : State :=
  { place 3 0 (.reporting downlink .confirmed 0) (opened 500040) with
    dst.window := [
      { item := telegram 1 true, sequence := 254, resendPending := false },
      { item := telegram 2 false, sequence := 255, resendPending := false },
      { item := outcome 3, sequence := 0, resendPending := false }]
    dst.nextSequence := 1
    dst.timer := some 500251 }

/-- Section 6.6, example: N = 255 removes U1 and restarts the timer at 500290. -/
theorem test_ack_removes_one :
    leads (exec (.ack 255) busyStream)
      (fun t => t.dst.window.map SentItem.sequence == [255, 0] && t.dst.timer == some 500290 &&
        t.dst.counters.acknowledged == 1) = true := by decide

/-- Section 6.6, example: N = 1 removes the rest, stops the timer and frees slot 3. -/
theorem test_ack_frees_the_slot :
    leads (exec (.ack 1) { busyStream with tbs.partTime := 500300, dst.timeoutCount := 1 })
      (fun t => t.dst.window == [] && t.dst.timer == none && t.dst.timeoutCount == 0 && slotState t 3 == .free) =
      true := by decide

/-- Section 6.6, example: the timer deadline marks the window, and the line, which is idle, takes the resend of
the oldest item, which starts the timer again. -/
theorem test_retransmitTimerExpiry_marks :
    leads (exec .retransmitTimerExpiry
        { busyStream with tbs.partTime := 500290, dst.timer := some 500290
                          trk.line := some { content := .delivery 0 (outcome 3), aborted := false } })
      (fun t => t.dst.window.map SentItem.resendPending == [true, true, true] && t.dst.timer == none &&
        t.dst.timeoutCount == 1) = true := by decide

/-- Section 12.3: at the third timeout with STALL_LIMIT 3 the stream stalls and LINK_STALL is raised. -/
theorem test_retransmitTimerExpiry_stalls :
    leads (exec .retransmitTimerExpiry
        { busyStream with tbs.partTime := 500772, dst.timer := some 500772, dst.timeoutCount := 2
                          dst.stallLimit := 3 })
      (fun t => t.dst.state == .stalled && t.dst.counters.stalls == 1 && t.alm.attn &&
        t.dst.window.all (fun w => !w.resendPending)) = true := by decide

/-! ## Trunk link -/

/-- Section 8.6, example, boundary 4: the count has reached 3, so the stream frame goes ahead of P3. -/
theorem test_frameBoundary_stream_first :
    leads (exec .frameBoundary
        { opened 5 with
          trk.line := some { content := .notice .rtlPressure 1 1 0, aborted := false }
          trk.responses := [{ response := { tag := 3, code := 0x12, status := 0, results := [] }
                              concludes := false }]
          trk.streamWait := 3
          dst.waiting := [telegram 1 false] })
      (fun t => t.trk.streamWait == 0 && t.trk.responses.length == 1 && t.dst.nextSequence == 1 &&
        t.trk.counters.streamFramesSent == 1) = true := by decide

/-- R146, R148: a line error. -/
theorem test_lineError :
    leads (exec .lineError { opened 5 with trk.assembler := .collecting [1, 2] false })
      (fun t => t.trk.assembler == .hunt && t.trk.counters.lineErrors == 1 && pendingCause t .trunkRxError) =
      true := by decide

/-- R146, R195: at 4 MHz a trunk bit lasts 208 periods. The eighth data bit of 0xA5 and its stop bit are sampled at
1768 and 1976 after the start, and the byte is a delimiter; a stop bit at space is one line error. -/
theorem test_discardedContent_samples_of_a_byte :
    leads (exec (.discardedContent (.quiet 1976))
        { opened 5 with trk.sampler := .receiving 0 true [true, false, true, false, false, true, false] })
      (fun t => t.trk.sampler == .idle && t.trk.assembler == .collecting [] false) = true ∧
    leads (exec (.discardedContent (.quiet 1976))
        { opened 5 with trk.sampler := .receiving 0 false (List.replicate 8 false) })
      (fun t => t.trk.sampler == .broken && t.trk.counters.lineErrors == 1) = true := by decide +kernel

/-- Chapter 11, an ACK on the line: the seven bytes are a valid frame handed to the delivery stream. R148: a
content of two bytes is a runt, and its closing delimiter begins a new content. -/
theorem test_discardedContent_bytes :
    leads (exec (.discardedContent (.bytes [0xA5, 0x02, 0xA6, 0x85, 0xF1, 0x40, 0xA5])) (opened 5))
      (fun t => t.trk.counters.validFrames == 1 && t.dst.counters.badAcks == 1 &&
        t.trk.counters.badChecks == 0) = true ∧
    leads (exec (.discardedContent (.bytes [0xA5, 0x02, 0x01, 0xA5])) (opened 5))
      (fun t => t.trk.counters.runts == 1 && t.trk.assembler == .collecting [] false) = true := by decide +kernel

/-- R149: a frame of a kind that the part does not receive. -/
theorem test_badKind :
    leads (exec (.badKind 0x82 0 []) (opened 5))
      (fun t => t.trk.counters.badKinds == 1 && t.trk.counters.validFrames == 0 &&
        !pendingCause t .trunkRxError) = true := by decide

/-- R148: a frame of 81 body bytes is oversize at its 85th byte, and its closing delimiter begins a new content. -/
theorem test_badKind_oversize :
    leads (exec (.badKind 0x82 0 (List.replicate 81 0)) (opened 5))
      (fun t => t.trk.counters.oversize == 1 && t.trk.counters.badKinds == 0 &&
        t.trk.assembler == .collecting [] false) = true := by decide

/-- R150: a third request is an overrun while the engine is CLOSING. -/
theorem test_requestFrame_overrun :
    leads (exec (.requestFrame 3 [0x12])
        { opened 5 with mre := .closing, trk.held := [{ tag := 1, body := [0x12] }, { tag := 2, body := [0x12] }] })
      (fun t => t.trk.held.length == 2 && t.trk.counters.overruns == 1 && pendingCause t .trunkRxError) =
      true := by decide

/-- R160: the idle deadline closes the session. -/
theorem test_idleDeadline :
    leads (exec .idleDeadline { opened 30000 with trk.session := .opened (some 30000) })
      (fun t => t.trk.session == .closed && t.trk.counters.idleCloses == 1) = true := by decide

/-! ## Requests -/

/-- The response on the line. -/
def responseOnLine (t : State) : Option (List Byte) :=
  t.trk.line.bind (fun f => match f.content with
    | .response q => some ([q.response.tag, q.response.code, q.response.status] ++ q.response.results)
    | .notice _ _ _ _ => none
    | .delivery _ _ => none)

/-- R152: a duplicate is answered from the cache. -/
theorem test_duplicate :
    leads (exec (.duplicate 7 0x53 [0x03])
        { opened 5 with trk.cache := [{ tag := 7, code := 0x53, response :=
            { tag := 7, code := 0x53, status := 0, results := [1, 2] } }] })
      (fun t => responseOnLine t == some [7, 0x53, 0, 1, 2] && t.trk.counters.duplicates == 1) = true := by decide

/-- R151, R204: an undefined code is BAD_REQUEST. -/
theorem test_undefinedRequest :
    leads (exec (.undefinedRequest 7 [0x7F]) (opened 5)) (fun t => responseOnLine t == some [7, 0x7F, 0x02]) =
      true := by decide

/-- Section 12.3: OPEN-SESSION RESUME in OPEN keeps 2 TELEGRAM items and 1 OUTCOME item, and LINK_STALL joins. -/
theorem test_openSession_resume :
    leads (exec (.openSession 0x41 0x01)
        { clearCause .restarted (raise .linkStall (place 6 0 (.reporting downlink .confirmed 0) (opened 502000))) with
          dst.state := .stalled
          dst.window := [{ item := telegram 2 false, sequence := 11, resendPending := false },
                         { item := outcome 6, sequence := 12, resendPending := false }]
          dst.waiting := [telegram 3 false]
          dst.nextSequence := 13 })
      (fun t => responseOnLine t == some [0x41, 0x10, 0x00, 0x01, 0x01, 2, 1, 0, 0, 1] &&
        t.dst.nextSequence == 0 && t.dst.waiting.length == 3 && t.trk.session == .opened (some 532000) &&
        inNotices t .linkStall) = true := by decide

/-- Section 12.3, variant: FRESH drops two and discards one, and slot 6 is freed. -/
theorem test_openSession_fresh :
    leads (exec (.openSession 0x41 0x02)
        { clearCause .restarted (place 6 0 (.reporting downlink .confirmed 0) (opened 502000)) with
          dst.waiting := [telegram 2 false, outcome 6, telegram 3 false] })
      (fun t => responseOnLine t == some [0x41, 0x10, 0x00, 0x02, 0x01, 0, 0, 2, 1, 0] &&
        slotState t 6 == .free && t.dst.counters.droppedAtFresh == 2) = true := by decide

/-- R158, R166: CLOSE-SESSION is answered OK and the engine waits. -/
theorem test_closeSession :
    leads (exec (.closeSession 1) (opened 5))
      (fun t => t.mre == .closing && t.trk.session == .opened (some 30005) &&
        responseOnLine t == some [1, 0x11, 0]) = true := by decide

/-- R171, R204: GET-STATUS after a full reset. -/
theorem test_getStatus :
    leads (exec (.getStatus 0) State.reset) (fun t => responseOnLine t ==
      some [0, 0x12, 0, 0x47, 0x06, 0x01, 0, 0, 0, 0, 16, 0, 0, 0, 0, 0, 0, 0, 0, 0, 0, 0, 0x01, 0, 0, 0, 0]) =
      true := by decide

/-- Section 9.3, example: at the end of the response of WARM-RESTART the session closes and the restart is
performed; the held GET-STATUS is answered in the same event. -/
theorem test_warmRestart_performed :
    leads (exec .frameBoundary
        { opened 900005 with
          mre := .restarting
          trk.line := some { content := .response { response :=
            { tag := 0x31, code := 0x13, status := 0, results := [] }, concludes := true }, aborted := false }
          trk.held := [{ tag := 0, body := [0x12] }]
          dst.window := [{ item := telegram 1 false, sequence := 15, resendPending := false }] })
      (fun t => t.mre == .ready && t.trk.session == .closed && t.trk.held == [] && t.dst.window == [] &&
        t.dst.waiting == [] && (causeState t .restarted).occurrence == some { count := 1, first := 900005 } &&
        t.trk.streamWait == 0 && t.trk.counters.responsesSent == 1) = true := by decide +kernel

/-- R172: WARM-RESTART is answered OK and the engine waits. -/
theorem test_warmRestart :
    leads (exec (.warmRestart 0x31) (opened 5))
      (fun t => t.mre == .restarting && responseOnLine t == some [0x31, 0x13, 0]) = true := by decide

/-- R175: SET-PARAMETER answers the value before and the value now. -/
theorem test_setParameter :
    leads (exec (.setParameter 1 0x30 [0x01, 0xF4]) (opened 5))
      (fun t => t.dst.ackTimeoutMs == 500 && responseOnLine t == some [1, 0x20, 0, 0x30, 0, 250, 0x01, 0xF4]) =
      true := by decide

/-- R176: GET-PARAMETER of RX_SYNC. -/
theorem test_getParameter :
    leads (exec (.getParameter 1 0x13) (opened 5)) (fun t => responseOnLine t == some [1, 0x21, 0, 0x13, 0x93, 0xB5]) =
      true := by decide

/-- R18: PUT-STATION makes an entry in the lowest free place. -/
theorem test_putStation_makes :
    leads (exec (.putStation 1 0x2200C1 0x00 200 3000 0x01 15 40 8) (opened 5))
      (fun t => t.stab.places[0] == some (entryOf 0x2200C1 .immediate) &&
        responseOnLine t == some [1, 0x30, 0, 0, 1]) = true := by decide

/-- R17: a gather time above 2000 is refused with BAD_VALUE. -/
theorem test_putStation_bad_value :
    leads (exec (.putStation 1 0x2200C1 0x00 2001 3000 0x01 15 40 8) (opened 5))
      (fun t => t.stab.places[0] == none && responseOnLine t == some [1, 0x30, 0x03]) = true := by decide

/-- R20: DROP-STATION discards the station's HELD slot. -/
theorem test_dropStation :
    leads (exec (.dropStation 1 0x2200C1)
        (withEntry 0 (entryOf 0x2200C1 .immediate) (place 2 7 (.held downlink) (opened 5))))
      (fun t => t.stab.places[0] == none && slotState t 2 == .reporting downlink .discarded 5 &&
        responseOnLine t == some [1, 0x31, 0, 0, 1]) = true := by decide

/-- R179, R204: GET-STATION. -/
theorem test_getStation :
    leads (exec (.getStation 1 0x2200C1) (withEntry 4 (entryOf 0x2200C1 .gather) (opened 5)))
      (fun t => responseOnLine t ==
        some [1, 0x32, 0, 4, 1, 1, 0, 200, 0x0B, 0xB8, 1, 15, 40, 8, 0, 0, 0, 0, 0, 0, 0, 0, 0]) = true := by decide

/-- R180, R204: LIST-STATIONS. -/
theorem test_listStations :
    leads (exec (.listStations 1 3) (withEntry 4 (entryOf 0x2200C1 .gather) (opened 5)))
      (fun t => responseOnLine t == some [1, 0x33, 0, 1, 0, 4, 0x22, 0x00, 0xC1, 1]) = true := by decide

/-- Section 12.2: QUEUE-DOWNLINK takes slot 2, whose generation becomes 7, with sequence 37. -/
theorem test_queueDownlink :
    leads (exec (.queueDownlink 1 0x2200C1 9 3 600 [1, 2])
        (withEntry 0 { entryOf 0x2200C1 .immediate with nextDownlinkSeq := 37 }
          (place 2 6 .free (place 1 0 (.held { downlink with station := 1 })
            (place 0 0 (.held { downlink with station := 2 }) (opened 100000))))))
      (fun t => responseOnLine t == some [1, 0x40, 0, 2, 7, 37] && t.dls.places[2].generation == 7 &&
        (slotState t 2).downlink.map Downlink.lifetimeDeadline == some 700000 &&
        (t.stab.places[0]).map Entry.nextDownlinkSeq == some 38) = true := by decide

/-- Chapter 11, a request and its response: the body bytes of the example reach slot 4, generation 0x1B,
sequence 0x25. -/
theorem test_queueDownlink_body :
    leads (exec (.requestFrame 0x2C [0x40, 0x0A, 0x00, 0x10, 0x09, 0x03, 0x02, 0x58, 0x03, 0x01, 0x02, 0x03])
        (withEntry 0 { entryOf 0x0A0010 .immediate with nextDownlinkSeq := 0x25 }
          { opened 5 with dls.places := Vector.ofFn (fun i : Fin 16 =>
              { generation := 0x1A, state := if i < 4 then .held downlink else .free }) }))
      (fun t => responseOnLine t == some [0x2C, 0x40, 0x00, 0x04, 0x1B, 0x25]) = true := by decide

/-- R85: a HELD downlink is CANCELLED. -/
theorem test_cancelDownlink :
    leads (exec (.cancelDownlink 1 2 7) (place 2 7 (.held downlink) (opened 5)))
      (fun t => slotState t 2 == .reporting downlink .cancelled 5 && responseOnLine t == some [1, 0x41, 0]) =
      true := by decide

/-- R90, R204: GET-DOWNLINK of a HELD slot ends with its queue position. -/
theorem test_getDownlink :
    leads (exec (.getDownlink 1 2 7) (place 2 7 (.held downlink) (opened 5)))
      (fun t => responseOnLine t ==
        some [1, 0x42, 0, 1, 0x22, 0x00, 0xC1, 9, 37, 2, 3, 0, 0x00, 0x0A, 0xAE, 0x60, 1]) = true := by decide

/-- R184, R204: GET-CAUSES after a full reset: RESTARTED pending, count 1, level 2, first time 0. -/
theorem test_getCauses :
    leads (exec (.getCauses 1) (opened 5)) (fun t => responseOnLine t ==
      some ([1, 0x50, 0, 1, 1, 2, 0, 0, 0, 0, 0, 0, 1, 0, 0, 1, 0, 0, 3, 0, 0, 3, 0, 0, 1, 0, 0, 1, 0, 0, 1])) =
      true := by decide

/-- Section 7, example: CLEAR-CAUSE 5 at 806000 lowers ATTN; response count 1, first 800000. -/
theorem test_clearCause :
    leads (exec (.clearCause 1 5) { raise .linkStall (opened 800000) with tbs.partTime := 806000 })
      (fun t => !t.alm.attn && !pendingCause t .linkStall &&
        responseOnLine t == some [1, 0x51, 0, 1, 1, 0x00, 0x0C, 0x35, 0x00]) = true := by decide

/-- R185: GET-COUNTERS of TRANSMIT. -/
theorem test_getCounters :
    leads (exec (.getCounters 1 0x05) { opened 5 with ftx.counters.started := 258 })
      (fun t => responseOnLine t == some [1, 0x52, 0, 5, 1, 2, 0, 0, 0, 0, 0, 0]) = true := by decide

/-- R186: CLEAR-COUNTERS answers the values and clears them. -/
theorem test_clearCounters :
    leads (exec (.clearCounters 1 0x05) { opened 5 with ftx.counters.started := 258 })
      (fun t => t.ftx.counters.toList == [0, 0, 0, 0] &&
        responseOnLine t == some [1, 0x53, 0, 5, 1, 2, 0, 0, 0, 0, 0, 0]) = true := by decide

/-- R106: CARRIER-TEST of 5000 ms asserts both lines and answers the test end. -/
theorem test_carrierTest :
    leads (exec (.carrierTest 1 5000) (opened 5))
      (fun t => t.ftx.state == .testing 5005 && t.ftx.keyLine && t.ftx.enLine &&
        responseOnLine t == some [1, 0x60, 0, 0, 0, 0x13, 0x8D]) = true := by decide

/-- R107: CARRIER-STOP ends the test. -/
theorem test_carrierStop :
    leads (exec (.carrierStop 1) { opened 5 with ftx.state := .testing 5005, ftx.keyLine := true, ftx.enLine := true })
      (fun t => t.ftx.state == .idle && !t.ftx.enLine && responseOnLine t == some [1, 0x61, 0, 1]) = true := by
  decide

/-! ## States that meet the hypotheses of the statements

`witness_<statement>` names the statement of Certificates/Slice0/Obligations.lean whose hypotheses it meets, with
a state for each clause and, where a clause has a range, a value at its end. -/

/-- With nothing held and nothing to send, an event has come to its end. -/
theorem resting_of_quiet {s : State} (h1 : Running s) (h2 : s.trk.held = [])
    (h3 : s.trk.responses = []) (h4 : lowestNotice s = none) (h5 : streamEligible s = false) : Resting s :=
  ⟨h1, .inl h2, .inr ⟨h3, h4, h5⟩⟩

theorem witness_StepRunsFrontCommand :
    ({ opened 5 with pending := [.lineError, .partTimeAdvance] }).pending = Instr.lineError :: [.partTimeAdvance] :=
  rfl

theorem witness_EmptyQueueIsOneTick :
    (opened 5).pending = [] ∧ (opened 5).tbs.refclkRunning = true ∧ (stopRefclk (opened 5)).pending = [] ∧
      (stopRefclk (opened 5)).tbs.refclkRunning = false ∧
      ({ opened 5 with ftx.state := .sending snapshot 5 191 }).ftx.state = .sending snapshot 5 191 ∧
      191 < snapshot.levels.length ∧ snapshot.levels.length ≤ 192 ∧
      ({ opened 5 with ftx.state := .stopping [true] }).ftx.state = .stopping (true :: []) ∧
      (opened 5).ftx.state = .idle := by
  decide +kernel

theorem witness_FullReset :
    ({ opened 5 with inReset := true }).inReset = true ∧ Instr.lineError ≠ .fullReset ∧
      (∀ a b, Instr.lineError ≠ .fullResetEnd a b) ∧ (∀ ch r, Instr.lineError ≠ .cellDecoded ch (.refclk r)) ∧
      (holdInReset (opened 5)).inReset = true ∧ (holdInReset (opened 5)).tbs.release = none ∧
      (stopRefclk (holdInReset (opened 5))).inReset = true ∧
      (stopRefclk (holdInReset (opened 5))).tbs.refclkRunning = false ∧
      (opened 5).tbs.refclkRunning = true :=
  ⟨rfl, nofun, nofun, nofun, rfl, rfl, rfl, rfl, rfl⟩

theorem witness_PartTimeAndDeadlines :
    Resting (opened 0xFFFFFFFF) ∧ (2147483647 : Nat) < 2147483648 ∧
      reached (after 0xFFFFFFFF 2147483647) (after 0xFFFFFFFF 2147483647) = true ∧
      reached (after 0xFFFFFFFF 2147483646) (after 0xFFFFFFFF 2147483647) = false :=
  ⟨resting_of_quiet ⟨rfl, rfl⟩ rfl rfl rfl rfl, by decide⟩

/-- A part that is not held and whose REFCLK is stopped, and commands sent to it. -/
theorem witness_PartTimeAndDeadlines_stopped :
    (stopRefclk (opened 5)).tbs.refclkRunning = false ∧ (stopRefclk (opened 5)).inReset = false ∧
      Instr.partTimeAdvance ≠ .fullReset ∧ (∀ ch, Instr.partTimeAdvance ≠ .cellDecoded ch (.refclk true)) ∧
      ∀ a b ch, Instr.fullResetEnd a b ≠ .cellDecoded ch (.refclk true) :=
  ⟨rfl, rfl, nofun, nofun, nofun⟩

theorem witness_EveryCommandEndsSettled :
    ∃ t, exec .lineError (opened 5) = .next t ∧ Running (opened 5) ∧ Running t :=
  ⟨_, rfl, ⟨rfl, rfl⟩, ⟨rfl, rfl⟩⟩

theorem witness_SettleOnlySends :
    Settled (opened 5) ∧ NoIntake { opened 5 with trk.line := busy } ∧
      ({ opened 5 with trk.line := busy }).trk.held = [] ∧ ({ opened 5 with trk.line := busy }).trk.line ≠ none ∧
      (opened 5).trk.line = none ∧
      (∀ s, s = { opened 5 with trk.held := [{ tag := 1, body := [] }] } →
        s.mre = .ready ∧ s.trk.responses.length < 4 ∧ s.trk.held ≠ []) ∧
      (7 : Byte) ≠ 0 ∧ findCached
        [{ tag := 7, code := 0x53, response := { tag := 7, code := 0x53, status := 0, results := [] } }] 7 0x53 ≠
          none ∧ findCached [] 7 0x53 = none :=
  ⟨(resting_of_quiet ⟨rfl, rfl⟩ rfl rfl rfl rfl).2, .inl rfl, rfl, by decide, rfl,
    (by rintro s rfl; exact ⟨rfl, by decide, by decide⟩), by decide⟩

/-- The five cases of the sender: a stream frame that has waited three times, and one with no other source; a
response; the notice of the lowest of two causes; nothing. -/
theorem witness_SettleOnlySends_sender :
    (∀ s, s = { opened 5 with dst.waiting := [telegram 1 false], trk.streamWait := 3 } →
      s.trk.session ≠ .closed ∧ s.dst.state = .running ∧ s.dst.waiting ≠ [] ∧ s.dst.window.length < 8 ∧
      3 ≤ s.trk.streamWait ∧ s.trk.responses = [] ∧ ∀ c, inNotices s c = false) ∧
    (∀ s, s = setNotice .streamDrop true (setNotice .learnFull true
        (setCause .learnFull { occurrence := some { count := 1, first := 2 }, level := 2 } (opened 5))) →
      s.trk.responses = [] ∧ s.trk.streamWait < 3 ∧ inNotices s .learnFull = true ∧
      (∀ c, inNotices s c = true → Cause.number .learnFull ≤ c.number) ∧
      causeState s .learnFull = { occurrence := some { count := 1, first := 2 }, level := 2 }) ∧
    (opened 5).dst.waiting = [] ∧ (opened 5).dst.window = [] := by
  refine ⟨?_, ?_, rfl, rfl⟩
  · rintro s rfl
    exact ⟨by decide, rfl, by decide, by decide, by decide, rfl, fun c => by cases c <;> rfl⟩
  · rintro s rfl
    exact ⟨rfl, by decide, rfl, fun c => by cases c <;> decide, rfl⟩

/-- The part with receiver A in a state. -/
def receiving (st : RxState) : State := { opened 5 with fra.state := st }

theorem receiving_resting (st : RxState) : Resting (receiving st) := resting_of_quiet ⟨rfl, rfl⟩ rfl rfl rfl rfl

theorem witness_LostPreambleAndMissingSync :
    (∀ st, Resting (receiving st)) ∧ (∃ c, rxState (receiving (.hunt none)) .A = .hunt c) ∧
      (∃ t n, rxState (receiving (.preamble (tracking 0 0) 1)) .A = .preamble t n) ∧
      (∃ t w fs n, rxState (receiving (.sync (tracking 0 0) 0 (List.replicate 16 false) 31)) .A =
        .sync t w fs n) ∧
      rxState (receiving .disabled) .A = .disabled ∧
      ∃ t bs cur n reg, rxState (receiving (.body (tracking 0 0) [] 0 0 0xFFFF)) .A = .body t bs cur n reg :=
  ⟨receiving_resting, ⟨_, rfl⟩, ⟨_, _, rfl⟩, ⟨_, _, _, _, rfl⟩, rfl, ⟨_, _, _, _, _, rfl⟩⟩

theorem witness_ReceiverErrorCountsAndBursts :
    Running (receiving .disabled) ∧ rxState (receiving .disabled) .A = .disabled ∧
      rxState (opened 5) .A ≠ .disabled ∧
      (∀ s, s = { opened 5 with alm.burstCount := 254, alm.errorBurstLimit := 255 } →
        s.alm.burstCount < 255 ∧ s.alm.burstCount + 1 = s.alm.errorBurstLimit) ∧
      (∀ s, s = { opened 5 with alm.burstCount := 255, alm.errorBurstLimit := 255 } →
        ¬ (s.alm.burstCount < 255 ∧ s.alm.burstCount + 1 = s.alm.errorBurstLimit)) := by
  refine ⟨⟨rfl, rfl⟩, rfl, by decide, ?_, ?_⟩ <;> (rintro s rfl; decide)

theorem witness_CellsOfPreambleAndSync :
    (∀ st, Resting (receiving st)) ∧ rxState (receiving (.hunt none)) .A = .hunt none ∧
      rxState (receiving (.preamble (tracking 0 0) 11)) .A = .preamble (tracking 0 0) 11 ∧
      10 + 1 < (tracking 0 0).snap.preambleMin ∧ (tracking 0 0).snap.preambleMin ≤ 11 + 1 ∧
      rxState (receiving (.sync (tracking 0 0) 0x49DA (List.replicate 16 false) 15)) .A =
        .sync (tracking 0 0) 0x49DA (List.replicate 16 false) 15 ∧
      (((0x49DA : Word16) <<< 1) ||| 1) = (tracking 0 0).snap.sync ∧
      (((0x0000 : Word16) <<< 1) ||| 1) ≠ (tracking 0 0).snap.sync ∧ 32 ≤ 31 + 1 ∧ 30 + 1 < 32 :=
  ⟨receiving_resting, rfl, rfl, by decide⟩

/-- A bit time of 240 µs at 4 MHz has 24ths of 40 periods; the places are the ends of the ranges. With 101 µs at
12 MHz the place of one 24th is 50 periods and a half. -/
theorem witness_WindowsOfTheLineCodes :
    (∀ p, p = (resetTimeBase false false).place24 240 →
      239 < p 6 ∧ p 6 ≤ 240 ∧ 719 < p 18 ∧ p 18 ≤ 720 ∧ 1200 ≤ p 30 ∧ p 30 < 1201 ∧ p 30 ≤ 1200 ∧
      720 ≤ p 18 ∧ p 18 < 721 ∧ 79 < p 2 ∧ p 2 ≤ 80 ∧ 479 < p 12 ∧ p 12 ≤ 480 ∧ 880 ≤ p 22 ∧ p 22 < 881 ∧
      879 < p 22) ∧
      2 * (101 * (resetTimeBase true false).refclkMHz * 1) = 48 * 50 + 24 := by
  refine ⟨?_, by decide⟩
  rintro p rfl
  decide

/-- The part with receiver A timing a cell of this code from place 0, with a bit time of 240 µs. -/
def timing (code : LineCode) (p : CellProgress) : State :=
  receiving (.preamble
    { snap := { resetProfile.snapshot with code := code, bitTimeUs := 240 }, cellRef := 0, progress := p,
      softCells := 0 } 1)

theorem witness_EdgeOnTheFieldLine :
    (∀ st, Resting (receiving st)) ∧ rxState (opened 5) .A = .hunt none ∧
      (opened 5).profile.code = .manchester ∧
      ({ opened 5 with profile.code := .biphaseMark }).profile.code = .biphaseMark ∧
      ({ opened 5 with profile.code := .pulseWidth }).profile.code = .pulseWidth ∧
      timedCell (rxState (timing .manchester .fresh) .A) = some (.manchester, 240, 0, .fresh) ∧
      quietVerdict (opened 5).tbs .manchester 240 0 .fresh (960 - 1) = .waiting .fresh ∧
      edgeVerdict (opened 5).tbs .manchester 240 0 .fresh true 960 = .cell true false 960 ∧
      edgeVerdict (opened 5).tbs .manchester 240 0 .fresh true 239 = .violation ∧
      (∀ t bs cur n reg, rxState (timing .manchester .fresh) .A ≠ .body t bs cur n reg) ∧
      edgeVerdict (opened 5).tbs .manchester 240 0 .fresh true 240 = .waiting .boundarySeen ∧
      (∃ t, timedCell (.body t [] 0 0 0xFFFF) = some (.manchester, 256, 0, .fresh)) :=
  ⟨receiving_resting, rfl, rfl, rfl, rfl, rfl, by decide, by decide, by decide, by simp [timing, receiving, rxState, receiver],
    by decide, ⟨tracking 0 0, rfl⟩⟩

/-- A quiet line up to the last period before a window ends, and up to its end: a cell decided, a violation. The
edge after the end of a window is one at 721. -/
theorem witness_EdgeOnTheFieldLine_quiet :
    timedCell (rxState (opened 5) .A) = none ∧ rxState (receiving .disabled) .A = .disabled ∧
      timedCell (rxState (timing .biphaseMark (.started 0 false)) .A) =
        some (.biphaseMark, 240, 0, .started 0 false) ∧
      quietVerdict (opened 5).tbs .biphaseMark 240 0 (.started 0 false) 719 = .waiting (.started 0 false) ∧
      quietVerdict (opened 5).tbs .biphaseMark 240 0 (.started 0 false) 720 = .cell false false 0 ∧
      quietVerdict (opened 5).tbs .manchester 240 0 .fresh 1200 = .violation ∧
      quietVerdict (opened 5).tbs .biphaseMark 240 0 (.started 0 false) (721 - 1) ≠ .waiting (.started 0 false) ∧
      ∀ r, CellInput.edge true 0 ≠ .refclk r :=
  ⟨rfl, rfl, rfl, by decide, by decide, by decide, by decide, nofun⟩

/-- A copy of five body bytes, handed over after no soft cell, with its check as the default profile gives it. -/
theorem witness_BodyCellsHandOverTheCopy :
    ∃ (c : Copy) (marks : List (Bool × Nat)),
      Resting (receiving (.body (tracking 0 0) [] 0 0 0xFFFF)) ∧ c.wf = true ∧
      rxState (receiving (.body (tracking 0 0) [] 0 0 0xFFFF)) c.channel =
        .body (tracking 0 0) [] 0 0 (tracking 0 0).snap.checkInit ∧
      5 + (if c.confirm.isSome then 1 else 0) + c.payload.length ≤ (tracking 0 0).snap.maxLength ∧
      marks.length =
        ((copyLengthAndBody c c.remaining.val).flatMap byteBits ++ wordBits c.check).length ∧
      c.check = checkOf (tracking 0 0).snap.checkPoly (tracking 0 0).snap.checkInit
        (copyLengthAndBody c c.remaining.val) ∧
      c.endTime = (receiving (.body (tracking 0 0) [] 0 0 0xFFFF)).now ∧
      c.margin.val = 15 - ((tracking 0 0).softCells + (marks.map Prod.fst).count true) :=
  ⟨{ shortCopy with endTime := 5, margin := 15 }, List.replicate 64 (false, 0),
    receiving_resting _, by decide, rfl, by decide, by decide +kernel, by decide +kernel, rfl,
    by decide +kernel⟩

theorem witness_BodyCellsEndInAnError :
    Resting (receiving (.body (tracking 0 0) [] 0 0 0xFFFF)) ∧
      ¬ (5 ≤ (4 : Byte).toNat ∧ (4 : Byte).toNat ≤ (tracking 0 0).snap.maxLength) ∧
      ¬ (5 ≤ (39 : Byte).toNat ∧ (39 : Byte).toNat ≤ (tracking 0 0).snap.maxLength) ∧
      (List.replicate 8 (false, 0)).length = 8 ∧
      (∃ (body : List Byte) (marks : List (Bool × Nat)),
        5 ≤ body.length ∧ body.length ≤ (tracking 0 0).snap.maxLength ∧ body.length ≤ 255 ∧
        marks.length = ((byteOf body.length :: body).flatMap byteBits ++ wordBits (0 : Word16)).length ∧
        (0 : Word16) ≠ checkOf (tracking 0 0).snap.checkPoly (tracking 0 0).snap.checkInit
          (byteOf body.length :: body)) ∧
      readUplink [0x10, 0x0A, 0x00, 0x10, 0x11] = none :=
  ⟨receiving_resting _, by decide, by decide, rfl,
    ⟨[0x80, 0x0A, 0x00, 0x10, 0x11], List.replicate 64 (false, 0), by decide, by decide, by decide, by decide +kernel,
      by decide +kernel⟩, by decide⟩

/-! ### Table and filter -/

/-- The part with the entry of station 0x0A0010 in this mode, last sequence 16. -/
def known (mode : Mode) : State :=
  withEntry 3 { entryOf 0x0A0010 mode with lastSequence := some 16 } (opened 200000)

theorem known_settled (mode : Mode) : Settled (known mode) := (resting_of_quiet ⟨rfl, rfl⟩ rfl rfl rfl rfl).2

theorem known_handsOver (mode : Mode) (c : Copy) (h : c.wf = true) : HandsOver c (known mode) :=
  ⟨⟨rfl, rfl⟩, by cases hc : c.channel <;> rfl, h⟩

/-- Copies of sequences 16 and 144 are LATE_REPEAT and STALE against last sequence 16. -/
theorem witness_DroppedCopies :
    (∀ mode, HandsOver shortCopy (known mode) ∧ Settled (known mode)) ∧
      lookup (known .block).stab 0x0A0010 =
        some (3, { entryOf 0x0A0010 .block with lastSequence := some 16 }) ∧
      lookup (opened 5).stab 0x0A0010 = none ∧ (opened 5).stab.policy = .drop ∧
      lookup (known .gather).stab 0x0A0010 =
        some (3, { entryOf 0x0A0010 .gather with lastSequence := some 16 }) ∧
      (∀ r ∈ (known .gather).rpf.records, ¬ (r.station = 0x0A0010 ∧ r.sequence = 16)) ∧
      128 ≤ ((144 : Byte) - 16).toNat :=
  ⟨fun _ => ⟨known_handsOver _ _ (by decide), known_settled _⟩, by decide, by decide, rfl, by decide, by decide,
    by decide⟩

theorem witness_RecordMatch :
    ∃ (s : State) (r : Record), HandsOver shortCopy s ∧ Settled s ∧
      (∀ i e, lookup s.stab shortCopy.station = some (i, e) → e.settings.mode ≠ .block) ∧
      (lookup s.stab shortCopy.station = none → s.stab.policy = .forward) ∧
      findRecord s.rpf.records shortCopy.station shortCopy.sequence = some r ∧
      r.check = normalisedCheck shortCopy s.profile.checkPoly s.profile.checkInit ∧
      r.check ≠ normalisedCheck { shortCopy with payload := [1] } s.profile.checkPoly s.profile.checkInit :=
  ⟨{ opened 5 with stab.policy := .forward, rpf.records := [record 17 (.gathering 200200)] },
    record 17 (.gathering 200200), ⟨⟨rfl, rfl⟩, rfl, by decide⟩, (resting_of_quiet ⟨rfl, rfl⟩ rfl rfl rfl rfl).2,
    fun i e h => absurd h (by rw [show lookup _ _ = none from by decide]; simp), fun _ => rfl, rfl,
    by decide +kernel, by decide +kernel⟩

/-- Sequences 17 and 143 are 1 and 127 ahead of last sequence 16. -/
theorem witness_AcceptedCopyWithEntry :
    HandsOver shortCopy (known .gather) ∧ HandsOver { shortCopy with urgent := true } (known .gather) ∧
      lookup (known .gather).stab 0x0A0010 =
        some (3, { entryOf 0x0A0010 .gather with lastSequence := some 16 }) ∧
      (∀ r ∈ (known .gather).rpf.records, ¬ (r.station = 0x0A0010 ∧ r.sequence = 17)) ∧
      1 ≤ ((17 : Byte) - 16).toNat ∧ ((143 : Byte) - 16).toNat ≤ 127 ∧
      (entryOf 0x0A0010 .gather).settings.mode = .gather ∧ shortCopy.urgent = false :=
  ⟨known_handsOver _ _ (by decide), known_handsOver _ _ (by decide), by decide, by decide, by decide, by decide,
    rfl, rfl⟩

theorem witness_AcceptedForwardedCopy :
    ∃ s : State, HandsOver shortCopy s ∧ lookup s.stab shortCopy.station = none ∧ s.stab.policy = .forward ∧
      ∀ r ∈ s.rpf.records, ¬ (r.station = shortCopy.station ∧ r.sequence = shortCopy.sequence) :=
  ⟨{ opened 5 with stab.policy := .forward, rpf.records := [record 16 .settled] }, ⟨⟨rfl, rfl⟩, rfl, by decide⟩,
    by decide, rfl, by decide⟩

/-- Section 3.5, example: the oldest SETTLED record stands behind a GATHERING one; and with every record
GATHERING the oldest of all. -/
theorem witness_PlaceIsMade :
    (∃ (s : State) (before others : List Record) (r : Record), s.rpf.records = before ++ r :: others ∧
      (∀ x ∈ before ++ others, ¬ (x.station = r.station ∧ x.sequence = r.sequence)) ∧
      (∀ x ∈ before, x.isGathering = true) ∧ before ≠ [] ∧ r.isGathering = false) ∧
    ∃ (s : State) (others : List Record) (r : Record), s.rpf.records = [] ++ r :: others ∧
      (∀ x ∈ others, ¬ (x.station = r.station ∧ x.sequence = r.sequence)) ∧
      r.isGathering = true ∧ (∀ x ∈ others, x.isGathering = true) ∧ others ≠ [] :=
  ⟨⟨{ opened 5 with rpf.records := [record 17 (.gathering 9), record 201 .settled, record 64 (.gathering 9)] },
      [record 17 (.gathering 9)], [record 64 (.gathering 9)], record 201 .settled, rfl, by decide, by decide,
      by decide, rfl⟩,
    ⟨{ opened 5 with rpf.records := [record 17 (.gathering 9), record 64 (.gathering 9)] },
      [record 64 (.gathering 9)], record 17 (.gathering 9), rfl, by decide, rfl, by decide, by decide⟩⟩

/-- A part under LEARN whose 64 places hold entries of this origin, but for place 63. -/
def fullTable (origin : Origin) (last : Option Entry) : State :=
  { opened 900000 with
    stab.policy := .learn
    stab.places := (Vector.replicate 64
      (some { entryOf 0x12C004 .immediate with origin := origin, lastHeard := some 850000 })).set 63 last }

theorem witness_LearnMakesOrFails :
    (∀ origin last, HandsOver shortCopy (fullTable origin last) ∧ (fullTable origin last).stab.policy = .learn) ∧
      lookup (fullTable .pinned none).stab shortCopy.station = none ∧
      ((fullTable .pinned none).stab.places[(63 : Fin 64)] = none ∧
        ∀ j : Fin 64, j < 63 → (fullTable .pinned none).stab.places[j] ≠ none) ∧
      ((∀ j : Fin 64, (fullTable .learned (some (entryOf 1 .immediate))).stab.places[j] ≠ none) ∧
        evictee 900000 (fullTable .learned (some (entryOf 1 .immediate))).stab = some 0) ∧
      ((∀ j : Fin 64, (fullTable .pinned (some (entryOf 1 .immediate))).stab.places[j] ≠ none) ∧
        evictee 900000 (fullTable .pinned (some (entryOf 1 .immediate))).stab = none) :=
  ⟨fun _ _ => ⟨⟨⟨rfl, rfl⟩, rfl, by decide⟩, rfl⟩, by decide +kernel, by decide +kernel, by decide +kernel,
    by decide +kernel⟩

theorem witness_EveryCopyIsCountedOnce :
    ∃ t, HandsOver shortCopy (known .gather) ∧ Settled (known .gather) ∧
      exec (.copy shortCopy) (known .gather) = .next t ∧
      (∀ n ∈ (known .gather).rpf.counters.toList, n < 65535) ∧
      (receiver (known .gather) .A).counters.copiesDelivered < 65535 :=
  ⟨_, known_handsOver _ _ (by decide), known_settled _, rfl, by decide, by decide⟩

/-- Deadlines reached in the very millisecond, and one millisecond early. -/
theorem witness_RecordDeadlines :
    findRecord [record 17 (.gathering 200200)] 0x0A0010 17 = some (record 17 (.gathering 200200)) ∧
      reached (opened 200200).now 200200 = true ∧ reached (opened 200199).now 200200 = false ∧
      findRecord [record 17 .settled] 0x0A0010 17 = some (record 17 .settled) ∧
      reached (opened 203000).now (record 17 .settled).settleDeadline = true ∧
      reached (opened 202999).now (record 17 .settled).settleDeadline = false := by
  decide

theorem witness_TelegramOfferTakesItsPlace :
    24 ≤ ({ opened 5 with dst.waiting := List.replicate 24 (telegram 1 false) }.dst.items.filter
      Item.isTelegram).length ∧
    ({ opened 5 with dst.waiting := List.replicate 23 (telegram 1 false) }.dst.items.filter
      Item.isTelegram).length < 24 ∧
    (∃ (s : State) (before others : List Item), s.dst.waiting = before ++ others ∧ before ≠ [] ∧ others ≠ [] ∧
      (∀ x ∈ before, ∃ u : TelegramItem, x = .telegram u ∧ u.control.urgent = true) ∧
      (∀ x, others.head? = some x → ¬ ∃ u : TelegramItem, x = .telegram u ∧ u.control.urgent = true)) := by
  refine ⟨by decide, by decide, { opened 5 with dst.waiting := [telegram 1 true, telegram 2 false] },
    [telegram 1 true], [telegram 2 false], rfl, by decide, by decide, ?_, ?_⟩
  · intro x hx
    obtain rfl := List.mem_singleton.mp hx
    exact ⟨_, rfl, rfl⟩
  · rintro x hx ⟨u, rfl, hu⟩
    cases hx
    cases hu

/-! ### Downlinks and transmitter -/

/-- The part with slot 2 in a state, at a part time. -/
def slotted (st : SlotState) (time : PartTime) : State :=
  withEntry 0 (entryOf 0x2200C1 .immediate) (place 2 7 st (opened time))

theorem witness_FirstCopyConfirms :
    NoneActive (slotted (.held downlink) 5) 0x2200C1 ∧
      (∀ st ∈ [SlotState.awaitConfirm downlink, .awaitConfirm { downlink with attemptsLeft := 0 },
        .armed downlink 6 7, .sending downlink], OnlyActive (slotted st 5) 0x2200C1 2) ∧
      slotState (slotted (.awaitConfirm downlink) 5) 2 = .awaitConfirm downlink ∧
      some (37 : Byte) = some downlink.sequence ∧ (none : Option Byte) ≠ some downlink.sequence ∧
      0 < downlink.attemptsLeft := by
  unfold NoneActive OnlyActive
  decide

/-- Windows of 300105 to 300113, before, at the open, and at the close. -/
theorem witness_ListeningUplinkArms :
    lookup (slotted (.held downlink) 300050).stab 0x2200C1 = some (0, entryOf 0x2200C1 .immediate) ∧
      (entryOf 0x2200C1 .immediate).settings.replyEnabled = true ∧
      NoneActive (slotted (.held downlink) 300050) 0x2200C1 ∧
      slotState (slotted (.held downlink) 300050) 2 = .held downlink ∧ downlink.station = 0x2200C1 ∧
      (∀ j f, slotState (slotted (.held downlink) 300050) j = .held f → f.station = 0x2200C1 → j ≠ 2 →
        downlink.order < f.order) ∧
      reached (opened 300104).now 300105 = false ∧ reached (opened 300105).now 300105 = true ∧
      reached (opened 300112).now 300113 = false ∧ reached (opened 300113).now 300113 = true ∧
      lookup (slotted (.held downlink) 5).stab 1 = none ∧ ¬ NoneActive (slotted (.sending downlink) 5) 0x2200C1 := by
  refine ⟨by decide, rfl, by unfold NoneActive; decide, rfl, rfl, ?_, by decide, by decide, by decide, by decide,
    by decide, by unfold NoneActive; decide⟩
  intro j f h _ hj
  have : ∀ j : Fin 16, j ≠ 2 → (slotState (slotted (.held downlink) 300050) j).downlink = none := by decide
  exact absurd (this j hj) (by rw [h]; simp [SlotState.downlink])

/-- Slot 2 a candidate with window open 300105 and close 300113. -/
def offered (time : PartTime) : State :=
  { slotted (.armed downlink 300105 300113) time with ftx.candidates := [2] }

theorem witness_ArbiterGrantsTheEarliest :
    Running (offered 300105) ∧ slotState (offered 300105) 2 = .armed downlink 300105 300113 ∧
      reached (offered 300105).now 300105 = true ∧ reached (offered 300104).now 300105 = false ∧
      ({ offered 300105 with ftx.state := .testing 400000 }).ftx.state ≠ .idle ∧
      reached (offered 300113).now 300113 = true ∧
      (offered 300112).ftx.state = .idle ∧ (offered 300112).ftx.candidates.Pairwise (fun j k => j < k) ∧
      2 ∈ (offered 300112).ftx.candidates ∧ reached (offered 300112).now 300113 = false ∧
      (300113 : PartTime) = (offered 300113).now ∧ reached (offered 300114).now 300113 = true ∧
      (300113 : PartTime) ≠ (offered 300114).now ∧
      (∀ j ∈ (offered 300112).ftx.candidates, j = 2) := by
  decide

theorem witness_WindowCloseMisses :
    Running (offered 300113) ∧ slotState (offered 300113) 2 = .armed downlink 300105 300113 ∧
      reached (offered 300113).now 300113 = true ∧ reached (offered 300112).now 300113 = false := by
  decide

theorem witness_LifetimeEndsADownlink :
    Running (slotted (.held downlink) 700000) ∧
      slotState (slotted (.held downlink) 700000) 2 = .held downlink ∧
      reached (slotted (.held downlink) 700000).now downlink.lifetimeDeadline = true ∧
      downlink.transmissions = 0 ∧ 0 < ({ downlink with transmissions := 1 }).transmissions ∧
      slotState (slotted (.awaitConfirm downlink) 700000) 2 = .awaitConfirm downlink ∧
      slotState (slotted (.sending downlink) 700000) 2 = .sending downlink ∧
      (slotState (slotted (.held downlink) 699999) 2).downlink = some downlink ∧
      reached (slotted (.held downlink) 699999).now downlink.lifetimeDeadline = false := by
  decide

/-- The part sending slot 2. -/
def sending (time : PartTime) : State :=
  { slotted (.sending downlink) time with ftx.state := .sending snapshot 2 192, ftx.enLine := true }

theorem witness_TransmitterEnds :
    Running (sending 699999) ∧ (sending 699999).ftx.state = .sending snapshot 2 192 ∧
      snapshot.levels.length ≤ 192 ∧ 191 < snapshot.levels.length ∧
      slotState (sending 699999) 2 = .sending downlink ∧
      reached (sending 699999).now downlink.lifetimeDeadline = false ∧
      reached (sending 700000).now downlink.lifetimeDeadline = true ∧
      (∀ snap i n, (opened 5).ftx.state ≠ .sending snap i n) ∧
      ({ opened 5005 with ftx.state := .testing 5005 }).ftx.state = .testing 5005 ∧
      reached (opened 5005).now 5005 = true ∧ reached (opened 5004).now 5005 = false ∧
      ({ opened 5 with ftx.state := .stopping [] }).ftx.state = .stopping [] ∧
      ({ opened 5 with ftx.state := .stopping [true] }).ftx.state ≠ .stopping [] :=
  ⟨⟨rfl, rfl⟩, rfl, by decide +kernel, by decide +kernel, rfl, by decide, by decide, fun _ _ _ h => (by cases h), rfl,
    by decide, by decide, rfl, by decide⟩

theorem witness_DownlinkIsKeyedBitByBit :
    ({ opened 5 with ftx.state := .sending snapshot 5 0, ftx.keyLine := true }).ftx.state =
        .sending snapshot 5 0 ∧
      ({ opened 5 with ftx.state := .sending snapshot 5 0, ftx.keyLine := true }).ftx.keyLine = true ∧
      1 ≤ snapshot.params.preambleBits ∧ 1 ≤ snapshot.params.halfBitTicks ∧ 191 < snapshot.levels.length := by
  decide +kernel

/-! ### Stream -/

/-- N = 254 acknowledges none, N = 1 all three; N = 2 one more than the window holds. -/
theorem witness_ValidAckRemovesAndFrees :
    Running busyStream ∧ busyStream.trk.assembler = .hunt ∧ busyStream.trk.session ≠ .closed ∧
      ((254 : Byte) - 254).toNat = 0 ∧ ((1 : Byte) - 254).toNat ≤ busyStream.dst.window.length ∧
      0 < ((1 : Byte) - 254).toNat ∧ busyStream.dst.state = .running ∧
      ({ busyStream with dst.state := .stalled }).dst.state = .stalled := by
  decide

theorem witness_InvalidAckIsIgnored :
    Resting { busyStream with trk.line := busy } ∧ busyStream.trk.assembler = .hunt ∧
      Resting State.reset ∧ State.reset.trk.session = .closed ∧
      busyStream.dst.window.length < ((2 : Byte) - 254).toNat :=
  ⟨⟨⟨rfl, rfl⟩, .inl rfl, .inl (by decide)⟩, rfl, resting_of_quiet ⟨rfl, rfl⟩ rfl rfl rfl rfl, rfl, by decide⟩

theorem witness_RetransmitTimerExpires :
    Running busyStream ∧ busyStream.dst.timer = some 500251 ∧
      reached (500251 : PartTime) 500251 = true ∧ reached (500250 : PartTime) 500251 = false ∧
      3 + 1 < busyStream.dst.stallLimit ∧ busyStream.dst.stallLimit ≤ 4 + 1 := by
  decide

theorem witness_StreamChoosesItsItem :
    (∃ (s : State) (before others : List SentItem) (w : SentItem), s.dst.window = before ++ w :: others ∧
      before ≠ [] ∧ (∀ x ∈ before, x.resendPending = false) ∧ w.resendPending = true) ∧
    ∃ (s : State) (it : Item) (rest : List Item), s.dst.waiting = it :: rest ∧
      (∀ x ∈ s.dst.window, x.resendPending = false) :=
  ⟨⟨{ opened 5 with dst.window := [
        { item := telegram 1 false, sequence := 0, resendPending := false },
        { item := telegram 2 false, sequence := 1, resendPending := true }] },
      [{ item := telegram 1 false, sequence := 0, resendPending := false }], [],
      { item := telegram 2 false, sequence := 1, resendPending := true }, rfl, by decide, by decide, rfl⟩,
    ⟨{ busyStream with dst.waiting := [telegram 3 false] }, telegram 3 false, [], rfl, by decide⟩⟩

/-! ### Trunk link -/

/-- A response that concludes nothing, or the one of a CLOSE-SESSION carried out. -/
def answer (concludes : Bool) : QueuedResponse :=
  { response := { tag := 1, code := 0x11, status := 0, results := [] }, concludes := concludes }

/-- The part with a busy line, this stream wait count, these waiting items and these responses. -/
def sender (wait : Nat) (items : List Item) (responses : List QueuedResponse) : State :=
  { opened 5 with trk.line := busy, trk.streamWait := wait, dst.waiting := items, trk.responses := responses }

theorem witness_SenderChoosesInOrder :
    (∀ wait items responses, Running (sender wait items responses) ∧
      (sender wait items responses).trk.line = busy ∧ (sender wait items responses).trk.held = []) ∧
      busy.map LineFrame.concludes = some false ∧
      ((sender 3 [telegram 1 false] [answer false]).trk.session ≠ .closed ∧
        (sender 3 [telegram 1 false] [answer false]).dst.state = .running ∧
        (sender 3 [telegram 1 false] [answer false]).dst.waiting ≠ [] ∧
        (sender 3 [telegram 1 false] [answer false]).dst.window.length < 8 ∧
        3 ≤ (sender 3 [telegram 1 false] [answer false]).trk.streamWait) ∧
      (sender 2 [telegram 1 false] [answer false]).trk.responses = answer false :: [] ∧
      ¬ 3 ≤ (sender 2 [telegram 1 false] [answer false]).trk.streamWait ∧
      (∀ s, s = setNotice .restarted true (sender 2 [] []) → s.trk.responses = [] ∧
        inNotices s .restarted = true ∧
        (∀ c', inNotices s c' = true → Cause.restarted.number ≤ c'.number) ∧
        causeState s .restarted = { occurrence := some { count := 1, first := 0 }, level := 2 }) ∧
      (∀ c, inNotices (sender 0 [] []) c = false) := by
  refine ⟨fun _ _ _ => ⟨⟨rfl, rfl⟩, rfl, rfl⟩, by decide, by decide, rfl, by decide, ?_, ?_⟩
  · rintro s rfl
    exact ⟨rfl, by decide, fun c' _ => by simp [Cause.number, Cause.index], rfl⟩
  · intro c
    cases c <;> decide

/-- Requests held: while the engine is CLOSING none is taken in; with four responses queued the boundary frees a
place for the oldest. -/
theorem witness_SenderChoosesInOrder_held :
    (∀ wait items responses, NoIntake { sender wait items responses with
        mre := .closing, trk.held := [{ tag := 1, body := [] }] }) ∧
    (∀ s, s = { sender 2 [] (List.replicate 4 (answer false)) with
        trk.held := [{ tag := 1, body := [] }, { tag := 2, body := [] }] } →
      Running s ∧ s.trk.line = busy ∧ s.trk.responses = answer false :: List.replicate 3 (answer false) ∧
      (List.replicate 3 (answer false)).length = 3 ∧
      s.trk.held = { tag := 1, body := [] } :: [{ tag := 2, body := [] }] ∧ s.mre = .ready ∧
      ¬ 3 ≤ s.trk.streamWait) := by
  refine ⟨fun _ _ _ => .inr (.inl (fun h => by cases h)), ?_⟩
  rintro s rfl
  exact ⟨⟨rfl, rfl⟩, rfl, rfl, rfl, rfl, rfl, by decide⟩

theorem witness_SessionCloses :
    State.reset.trk.session = .closed ∧ (opened 5).trk.session ≠ .closed ∧ (opened 5).trk.line = none ∧
      ({ opened 5 with trk.line := busy }).trk.line =
        some { content := .delivery 0 (telegram 1 false), aborted := false } ∧
      (∀ m, ({ opened 5 with mre := m, trk.line := some { content := .response (answer true), aborted := false } }
        ).trk.session ≠ .closed) ∧
      (answer true).concludes = true ∧
      (∀ m s, s = { State.reset with
          mre := m, trk.line := some { content := .response (answer true), aborted := false } } →
        Running s ∧ s.trk.session = .closed ∧ s.mre = m) := by
  refine ⟨rfl, by decide, rfl, rfl, fun m => ?_, rfl, ?_⟩
  · exact (by decide : (opened 5).trk.session ≠ .closed)
  · rintro m s rfl
    exact ⟨⟨rfl, rfl⟩, rfl, rfl⟩

/-- A warm restart is met with the last tick but one sent, and with every tick sent. -/
theorem witness_WarmRestartOfEveryBlock :
    State.reset.trk.session = .closed ∧ State.reset.ftx.state = .idle ∧
      ({ State.reset with ftx.state := .testing 5 }).ftx.state = .testing 5 ∧
      ({ State.reset with ftx.state := .sending snapshot 5 191 }).ftx.state = .sending snapshot 5 191 ∧
      191 < snapshot.levels.length ∧ 1 ≤ snapshot.params.halfBitTicks ∧ snapshot.levels.length ≤ 192 := by
  decide +kernel

theorem witness_IdleDeadlineCloses :
    (∀ s, s = { opened 30000 with trk.session := .opened (some 30000), trk.responses := [answer false] } →
      Running s ∧ s.trk.session = .opened (some 30000) ∧ reached s.now 30000 = true ∧
      ∀ q ∈ s.trk.responses, q.concludes = false) ∧
    (∀ m s, s = { opened 30000 with mre := m, trk.session := .opened (some 30000), trk.responses := [answer true] } →
      (∃ q ∈ s.trk.responses, q.concludes = true) ∧ s.mre = m) ∧
    (opened 5).trk.session = .opened none ∧ State.reset.trk.session = .closed ∧
    reached (29999 : PartTime) 30000 = false := by
  refine ⟨?_, ?_, rfl, rfl, by decide⟩
  · rintro s rfl; decide
  · rintro m s rfl; exact ⟨⟨_, List.mem_cons_self, rfl⟩, rfl⟩

theorem witness_DiscardedOnReception :
    Resting (opened 5) ∧ (0x82 : Byte) ≠ 0x01 ∧ (0x82 : Byte) ≠ 0x02 ∧
      (List.replicate 80 (0 : Byte)).length ≤ 80 ∧ (opened 5).trk.assembler = .hunt ∧
      ([0] : List Byte) ≠ [] ∧ (opened 5).trk.sampler = .idle ∧
      ({ opened 5 with trk.sampler := .broken }).trk.sampler = .broken ∧ 0 + 10 * 208 ≤ 2080 :=
  ⟨resting_of_quiet ⟨rfl, rfl⟩ rfl rfl rfl rfl, by decide⟩

/-- Contents at the ends of their ranges: none, one, three and 84 bytes collected, a frame that has collected 80
body bytes with a right and with a wrong check, and a frame of 81. -/
theorem witness_FrameBytesAreTheFrame :
    (∀ a, Resting { opened 5 with trk.assembler := a }) ∧ (opened 5).trk.assembler = .hunt ∧
      (List.replicate 80 (0xA5 : Byte)).length ≤ 80 ∧ 80 < (List.replicate 81 (0xA5 : Byte)).length ∧
      (List.replicate 84 (0xA5 : Byte)).length ≤ 84 ∧ (List.replicate 83 (0xA5 : Byte)).length < 84 ∧
      84 ≤ (List.replicate 84 (0 : Byte)).length ∧ 1 ≤ ([0] : List Byte).length ∧ ([0, 0, 0] : List Byte).length ≤ 3 ∧
      (0x83 : Byte) ≠ 0x01 ∧ (0x83 : Byte) ≠ 0x02 ∧ (0x84 : Byte) ≠ 0x85 ∧ (0x87 : Byte) ≠ 0x86 ∧
      (frameCheck [0x02, 0xA5] = 0xF140) ∧ (0xF141 : Word16) ≠ frameCheck [0x02, 0xA5] :=
  ⟨fun _ => resting_of_quiet ⟨rfl, rfl⟩ rfl rfl rfl rfl, rfl, by decide +kernel⟩

/-- A part in OPEN that takes every request at once. -/
theorem opened_takes (time : PartTime) (tag code : Byte) : TakesAtOnce (opened time) tag code :=
  ⟨⟨rfl, rfl⟩, .inl rfl, rfl, rfl, Nat.succ_pos 3, .inr rfl⟩

theorem reset_takes (tag code : Byte) : TakesAtOnce State.reset tag code :=
  ⟨⟨rfl, rfl⟩, .inl rfl, rfl, rfl, Nat.succ_pos 3, .inr rfl⟩

theorem witness_RequestFramesAreHeldAndTaken :
    (∀ s, s = { opened 5 with trk.held := [{ tag := 1, body := [] }], mre := .closing } →
      Running s ∧ s.trk.assembler = .hunt ∧ s.trk.held.length < 2) ∧
    (∀ s, s = { opened 5 with trk.held := [{ tag := 1, body := [] }, { tag := 2, body := [] }], mre := .closing } →
      Running s ∧ s.trk.assembler = .hunt ∧ 2 ≤ s.trk.held.length) ∧
    (List.replicate 80 (0 : Byte)).length ≤ 80 ∧ TakesAtOnce (opened 5) 7 0x12 ∧
    (List.replicate 79 (0 : Byte)).length ≤ 79 := by
  refine ⟨?_, ?_, by decide, opened_takes _ _ _, by decide⟩ <;> (rintro s rfl; decide)

/-- The cached response of tag 7 and code 0x53. -/
def cached : CacheRecord :=
  { tag := 7, code := 0x53, response := { tag := 7, code := 0x53, status := 0, results := [] } }

theorem witness_AnsweredAtIntake :
    TakesAtOnce { opened 5 with trk.cache := [cached] } 0 0x53 ∧ (7 : Byte) ≠ 0 ∧
      findCached [cached] 7 0x53 = some cached ∧ TakesAtOnce (opened 5) 0 0 ∧ TakesAtOnce (opened 5) 7 0x7F ∧
      (0x7F : Byte) ∉ definedCodes ∧ TakesAtOnce State.reset 7 0x61 ∧ State.reset.trk.session = .closed ∧
      TakesAtOnce (opened 5) 7 0x40 ∧ (opened 5).trk.session ≠ .closed ∧ ([1] : List Byte).length ≠ 2 ∧
      (List.replicate 7 (0 : Byte)).length < 8 ∧ (List.replicate 7 (0 : Byte)).length = 7 ∧
      (List.replicate 5 (0 : Byte)).length ≠ (4 : Byte).toNat ∧
      (List.replicate 7 (0 : Byte) ++ (4 : Byte) :: List.replicate 5 0).length ≤ 79 :=
  ⟨⟨⟨rfl, rfl⟩, .inl rfl, rfl, rfl, Nat.succ_pos 3, .inl rfl⟩, by decide, by decide, opened_takes _ _ _, opened_takes _ _ _,
    by decide, reset_takes _ _, rfl, opened_takes _ _ _, by decide⟩

/-! ### Requests -/

theorem witness_OpenSession :
    TakesAtOnce State.reset 1 0x10 ∧ State.reset.dst.window = [] ∧ TakesAtOnce (opened 5) 1 0x10 ∧
      (opened 5).trk.session ≠ .closed ∧ (0x03 : Byte) ≠ 0x01 ∧ (0x03 : Byte) ≠ 0x02 :=
  ⟨reset_takes _ _, rfl, opened_takes _ _ _, by decide⟩

theorem witness_CloseRestartAndStatus :
    TakesAtOnce (opened 5) 1 0x11 ∧ TakesAtOnce (opened 5) 1 0x13 ∧ (opened 5).trk.session ≠ .closed ∧
      TakesAtOnce State.reset 1 0x12 :=
  ⟨opened_takes _ _ _, opened_takes _ _ _, by decide, reset_takes _ _⟩

theorem witness_ParametersAreSetAndRead :
    TakesAtOnce (opened 5) 1 0x20 ∧ TakesAtOnce (opened 5) 1 0x21 ∧ (opened 5).trk.session ≠ .closed ∧
      Param.inRange .ackTimeoutMs 5000 = true ∧ Param.inRange .ackTimeoutMs (numOf [0x13, 0x89]) = false ∧
      (∀ p : Param, p.number ≠ 0x59) ∧ [0x13, 0x89].length = Param.width .ackTimeoutMs ∧
      (List.replicate 78 (0 : Byte)).length ≤ 78 ∧ (List.replicate 78 (0 : Byte)).length ≠ Param.width .txCode := by
  refine ⟨opened_takes _ _ _, opened_takes _ _ _, by decide, by decide, by decide, ?_, by decide⟩
  intro p
  cases p with
  | level c => cases c <;> decide
  | _ => decide

theorem witness_ParametersThatActAtOnce :
    State.reset.trk.session = .closed ∧ (opened 5).trk.session ≠ .closed :=
  ⟨rfl, by decide⟩

/-- Settings at the ends of their ranges; an entry, a free place, an entry to evict, and none. -/
theorem witness_PutStationWritesTheEntry :
    (∀ origin last, TakesAtOnce (fullTable origin last) 1 0x30 ∧
      (fullTable origin last).trk.session ≠ .closed) ∧
      (10 ≤ (10 : Word16).toNat ∧ 100 ≤ (100 : Word16).toNat ∧ (2000 : Word16).toNat ≤ 2000 ∧
        (60000 : Word16).toNat ≤ 60000 ∧ 1 ≤ (1 : Byte).toNat ∧ (250 : Byte).toNat ≤ 250 ∧
        (100 : Byte).toNat ≤ 100) ∧
      lookup (known .gather).stab 0x0A0010 =
        some (3, { entryOf 0x0A0010 .gather with lastSequence := some 16 }) ∧
      lookup (fullTable .pinned none).stab 2 = none ∧
      ((fullTable .pinned none).stab.places[(63 : Fin 64)] = none ∧
        ∀ j : Fin 64, j < 63 → (fullTable .pinned none).stab.places[j] ≠ none) ∧
      ((∀ j : Fin 64, (fullTable .learned (some (entryOf 1 .immediate))).stab.places[j] ≠ none) ∧
        evictee 900000 (fullTable .learned (some (entryOf 1 .immediate))).stab = some 0) ∧
      evictee 900000 (fullTable .pinned (some (entryOf 1 .immediate))).stab = none :=
  ⟨fun _ _ => ⟨⟨⟨rfl, rfl⟩, .inl rfl, rfl, rfl, Nat.succ_pos 3, .inr rfl⟩, (by decide : (opened 5).trk.session ≠ .closed)⟩,
    by decide, by decide, by decide +kernel, by decide +kernel, by decide +kernel, by decide +kernel⟩

theorem witness_DropStationClosesAndDiscards :
    TakesAtOnce (slotted (.held downlink) 5) 1 0x31 ∧ (slotted (.held downlink) 5).trk.session ≠ .closed ∧
      lookup (slotted (.held downlink) 5).stab 0x2200C1 = some (0, entryOf 0x2200C1 .immediate) ∧
      (¬ ∃ i d, slotState (slotted (.held downlink) 5) i = .sending d ∧ d.station = 0x2200C1) ∧
      (∃ i d, slotState (slotted (.sending downlink) 5) i = .sending d ∧ d.station = 0x2200C1) ∧
      lookup (opened 5).stab 0x2200C1 = none ∧ 2 < (3 : Byte).toNat ∧ 250 < (251 : Byte).toNat := by
  refine ⟨⟨⟨rfl, rfl⟩, .inl rfl, rfl, rfl, Nat.succ_pos 3, .inr rfl⟩, by decide, by decide, ?_, ⟨2, downlink, rfl, rfl⟩,
    by decide, by decide, by decide⟩
  rintro ⟨i, d, h, -⟩
  have key : ∀ i : Fin 16, (slotState (slotted (.held downlink) 5) i).isSending = false := by decide
  have := key i
  rw [h] at this
  exact absurd this (by simp [SlotState.isSending])

/-- LIST-STATIONS from 56 finds the last eight, from 55 one more. -/
theorem witness_StationsAreRead :
    TakesAtOnce (opened 5) 1 0x32 ∧ TakesAtOnce (opened 5) 1 0x33 ∧ (opened 5).trk.session ≠ .closed ∧
      lookup (opened 5).stab 1 = none ∧
      lookup (known .gather).stab 0x0A0010 =
        some (3, { entryOf 0x0A0010 .gather with lastSequence := some 16 }) ∧
      63 < (64 : Byte).toNat ∧ (63 : Byte).toNat ≤ 63 ∧
      (∀ n : Nat, n ∈ [55, 56] → (((List.finRange 64).drop n).filterMap (fun i =>
        ((fullTable .pinned (some (entryOf 1 .immediate))).stab.places[i]).map (fun e => (i, e)))).length = 64 - n) :=
  ⟨opened_takes _ _ _, opened_takes _ _ _, by decide, by decide, by decide, by decide, by decide,
    by decide +kernel⟩

/-- Every slot of the store in one state. -/
def allSlots (d : Downlink) : State :=
  { withEntry 0 (entryOf 0x2200C1 .immediate) (opened 5) with
    dls.places := Vector.replicate 16 { generation := 0, state := .held d } }

theorem witness_QueueDownlinkFillsAPlace :
    TakesAtOnce (slotted .free 5) 1 0x40 ∧ (slotted .free 5).trk.session ≠ .closed ∧
      lookup (slotted .free 5).stab 0x2200C1 = some (0, entryOf 0x2200C1 .immediate) ∧
      (entryOf 0x2200C1 .immediate).settings.replyEnabled = true ∧
      (∀ k : Fin 16, ¬ k < 0) ∧ slotState (slotted .free 5) 0 = .free ∧
      slotCount (allSlots { downlink with station := 1 }) 0x2200C1 < 4 ∧
      (∀ i : Fin 16, (slotState (allSlots { downlink with station := 1 }) i).isHeld = true) ∧
      4 ≤ slotCount (allSlots downlink) 0x2200C1 ∧
      (1 ≤ (8 : Byte).toNat ∧ (8 : Byte).toNat ≤ 8 ∧ (3600 : Word16).toNat ≤ 3600 ∧
        (List.replicate 24 (0 : Byte)).length ≤ 24 ∧ ¬ (List.replicate 25 (0 : Byte)).length ≤ 24) := by
  refine ⟨⟨⟨rfl, rfl⟩, .inl rfl, rfl, rfl, Nat.succ_pos 3, .inr rfl⟩, by decide, by decide, rfl, by decide, by decide,
    by decide +kernel, by decide +kernel, by decide +kernel, by decide⟩

theorem witness_DownlinksAreCancelledAndRead :
    (∀ st, TakesAtOnce (slotted st 5) 1 0x41 ∧ TakesAtOnce (slotted st 5) 1 0x42 ∧
      (slotted st 5).trk.session ≠ .closed ∧ (slotted st 5).dls.places[(2 : Fin 16)].generation = 7 ∧
      slotState (slotted st 5) 2 = st) ∧
      15 < (16 : Byte).toNat ∧ slotState (opened 5) 15 = .free :=
  ⟨fun st => ⟨⟨⟨rfl, rfl⟩, .inl rfl, rfl, rfl, Nat.succ_pos 3, .inr rfl⟩, ⟨⟨rfl, rfl⟩, .inl rfl, rfl, rfl, Nat.succ_pos 3, .inr rfl⟩,
    (by decide : (opened 5).trk.session ≠ .closed), by cases st <;> rfl, by cases st <;> rfl⟩, by decide, by decide⟩

/-! ### Causes, counters and the carrier -/

theorem witness_RaisesAndReminders :
    (causeState (opened 5) .restarted).occurrence = some { count := 1, first := 0 } ∧
      (causeState (opened 5) .linkStall).occurrence = none ∧ (opened 5).trk.session ≠ .closed ∧
      1 ≤ (causeState (opened 5) .linkStall).level ∧
      (∀ time, (opened time).alm.renotifyDeadline = 10000) ∧ reached (opened 10000).now 10000 = true ∧
      reached (opened 9999).now 10000 = false ∧ Resting (opened 1000) ∧ (opened 1000).now.toNat % 1000 = 0 ∧
      (opened 999).now.toNat % 1000 ≠ 0 :=
  ⟨rfl, rfl, by decide, by decide, fun _ => rfl, by decide, by decide, resting_of_quiet ⟨rfl, rfl⟩ rfl rfl rfl rfl,
    by decide, by decide⟩

theorem witness_CausesAreReadAndCleared :
    (opened 5).trk.session ≠ .closed ∧ TakesAtOnce (opened 5) 1 0x50 ∧ TakesAtOnce (opened 5) 1 0x51 ∧
      8 < (9 : Byte).toNat :=
  ⟨by decide, opened_takes _ _ _, opened_takes _ _ _, by decide⟩

theorem witness_CountersAreReadAndCleared :
    (opened 5).trk.session ≠ .closed ∧ TakesAtOnce (opened 5) 1 0x52 ∧ TakesAtOnce (opened 5) 1 0x53 ∧
      7 < (8 : Byte).toNat :=
  ⟨by decide, opened_takes _ _ _, opened_takes _ _ _, by decide⟩

theorem witness_CarrierTestsAndStops :
    (∀ st, TakesAtOnce { opened 5 with ftx.state := st } 1 0x60 ∧
      TakesAtOnce { opened 5 with ftx.state := st } 1 0x61 ∧
      ({ opened 5 with ftx.state := st }).trk.session ≠ .closed) ∧
      1 ≤ (5000 : Word16).toNat ∧ (5000 : Word16).toNat ≤ 5000 ∧
      ¬ (1 ≤ (5001 : Word16).toNat ∧ (5001 : Word16).toNat ≤ 5000) ∧
      (∀ d, (opened 5).ftx.state ≠ .testing d) :=
  ⟨fun st => ⟨⟨⟨rfl, rfl⟩, .inl rfl, rfl, rfl, Nat.succ_pos 3, .inr rfl⟩, ⟨⟨rfl, rfl⟩, .inl rfl, rfl, rfl, Nat.succ_pos 3, .inr rfl⟩,
    (by decide : (opened 5).trk.session ≠ .closed)⟩, by decide, by decide, by decide, fun _ h => (by cases h)⟩

/-! ### Invariants -/

theorem witness_AttnAndParametersStay :
    AttnInv (raise .linkStall (opened 5)) ∧ ParamInv (opened 5) ∧
      ∃ t, step (opened 5) = .next t := by
  refine ⟨by unfold AttnInv; decide, ?_, _, rfl⟩
  intro p
  cases p with
  | level c => cases c <;> decide
  | _ => decide

/-- Two items in the window, the newer one marked for resend, one item waiting, the timer running. -/
def streaming : State :=
  { opened 5 with
    dst.window := [
      { item := telegram 1 false, sequence := 255, resendPending := false },
      { item := telegram 2 false, sequence := 0, resendPending := true }]
    dst.waiting := [telegram 3 false]
    dst.nextSequence := 1
    dst.timer := some 9
    pending := [.ack 0] }

theorem witness_StreamStaysConsistent :
    WhileRunning StreamInv streaming ∧ ∃ t, step streaming = .next t := by
  refine ⟨fun _ => ⟨by decide, by decide, ?_, by decide, by decide, by decide, by decide, by decide, by decide,
    by decide⟩, _, rfl⟩
  simp [streaming]

/-- A CLOSE-SESSION whose response is on the line, with a notice waiting and a record in the cache. -/
def closing : State :=
  { opened 5 with
    mre := .closing
    trk.sessionIdleS := 0
    trk.line := some { content := .response (answer true), aborted := false }
    trk.notices := (opened 5).trk.notices.set 0 true
    trk.cache := [cached]
    trk.held := [{ tag := 2, body := [0x12] }]
    trk.assembler := .collecting [1, 2] true
    pending := [.frameBoundary] }

theorem witness_TrunkStaysConsistent :
    WhileRunning TrunkInv closing ∧ ∃ t, step closing = .next t := by
  refine ⟨fun _ => ⟨by decide, by decide, by decide, by decide, by decide, by decide, ?_, ?_, ?_, by decide⟩, _,
    rfl⟩
  · intro bs esc h
    cases h
    decide
  · intro c
    cases c <;> decide
  · intro d h
    cases h
    decide

/-- A GATHERING record and a HELD slot, each with its PINNED entry. -/
def tabled : State :=
  { slotted (.held { downlink with station := 0x0A0010 }) 5 with
    stab.places := (Vector.replicate 64 none).set 3 (some (entryOf 0x0A0010 .gather))
    rpf.records := [record 17 (.gathering 200200), record 18 .settled]
    pending := [.gatherDeadline 0x0A0010 17] }

theorem witness_TableStaysConsistent :
    WhileRunning TableInv tabled ∧ ∃ t, step tabled = .next t := by
  have pinned : hasPinned tabled 0x0A0010 := ⟨3, entryOf 0x0A0010 .gather, by decide, rfl⟩
  have only : ∀ (i : Fin 64) (e : Entry), tabled.stab.places[i] = some e → i = 3 ∧ e = entryOf 0x0A0010 .gather := by
    have key : ∀ i : Fin 64, tabled.stab.places[i] = none ∨
        (i = 3 ∧ tabled.stab.places[i] = some (entryOf 0x0A0010 .gather)) := by decide +kernel
    intro i e h
    rcases key i with hn | ⟨hi, hs⟩
    · rw [h] at hn; cases hn
    · rw [h] at hs; exact ⟨hi, Option.some.inj hs⟩
  refine ⟨fun _ => ⟨?_, ?_, by decide, by decide, ?_, ?_⟩, _, rfl⟩
  · intro i j e f hi hj _
    rw [(only i e hi).1, (only j f hj).1]
  · intro i e hi ho
    rw [(only i e hi).2] at ho
    cases ho
  · intro r hr _
    have : r.station = 0x0A0010 := by
      revert r
      decide
    rw [this]; exact pinned
  · intro i d h
    have key : ∀ i : Fin 16, ∀ f ∈ (slotState tabled i).downlink, f.station = 0x0A0010 := by decide
    have hd : (slotState tabled i).downlink = some d := by
      rcases h with h | h | h | ⟨o, c, h⟩ <;> rw [h] <;> rfl
    rw [key i d hd]; exact pinned

/-- Slot 2 being sent, slot 9 a candidate of another station, slot 3 REPORTING with its item waiting. -/
def storing : State :=
  { place 9 0 (.armed { downlink with station := 1, order := 1 } 3 90)
      (place 3 0 (.reporting { downlink with station := 2, order := 2 } .cancelled 4) (opened 5)) with
    dls.places := ((place 9 0 (.armed { downlink with station := 1, order := 1 } 3 90)
      (place 3 0 (.reporting { downlink with station := 2, order := 2 } .cancelled 4) (opened 5))).dls.places).set 2
        { generation := 7, state := .sending downlink }
    dst.waiting := [outcome 3]
    ftx.state := .sending snapshot 2 100
    ftx.candidates := [9]
    ftx.enLine := true
    ftx.keyLine := false
    pending := [.windowClose 9] }

theorem witness_SlotsStayConsistent :
    WhileRunning SlotInv storing ∧ ∃ t, step storing = .next t := by
  have key : ∀ i : Fin 16, slotState storing i =
      if i = 2 then .sending downlink
      else if i = 9 then .armed { downlink with station := 1, order := 1 } 3 90
      else if i = 3 then .reporting { downlink with station := 2, order := 2 } .cancelled 4 else .free := by
    decide +kernel
  have stations : ∀ (i : Fin 16) (d : Downlink), (slotState storing i).downlink = some d →
      (i = 2 ∧ d = downlink) ∨ (i = 9 ∧ d = { downlink with station := 1, order := 1 }) ∨
        (i = 3 ∧ d = { downlink with station := 2, order := 2 }) := by
    intro i d h
    rw [key i] at h
    split at h
    · exact .inl ⟨‹_›, (Option.some.inj h).symm⟩
    · split at h
      · exact .inr (.inl ⟨‹_›, (Option.some.inj h).symm⟩)
      · split at h
        · exact .inr (.inr ⟨‹_›, (Option.some.inj h).symm⟩)
        · cases h
  have same : ∀ (i j : Fin 16) (d f : Downlink), (slotState storing i).downlink = some d →
      (slotState storing j).downlink = some f → d.station = f.station → i = j := by
    intro i j d f hi hj hs
    rcases stations i d hi with ⟨rfl, rfl⟩ | ⟨rfl, rfl⟩ | ⟨rfl, rfl⟩ <;>
      rcases stations j f hj with ⟨rfl, rfl⟩ | ⟨rfl, rfl⟩ | ⟨rfl, rfl⟩ <;>
      first | rfl | exact absurd hs (by decide)
  refine ⟨fun _ =>
    { keyed := ?_, armed := ?_, rising := by decide, reported := ?_, once := by decide, oneActive := ?_
      fourSlots := ?_, attempts := ?_, orders := ?_, oldest := ?_, spare := ?_, idleLines := ?_, testLines := ?_
      busyLines := ?_, keyLevels := ?_, firstMark := by decide }, _, rfl⟩
  · intro i
    have : (slotState storing i).isSending = true ↔ i = 2 := by
      revert i; decide +kernel
    rw [this]
    constructor
    · rintro rfl; exact ⟨_, _, rfl⟩
    · rintro ⟨snap, n, h⟩; cases h; rfl
  · intro i hi
    obtain rfl := List.mem_singleton.mp hi
    exact ⟨_, _, _, key 9⟩
  · decide +kernel
  · intro i j d f _ _ hd hf hs; exact same i j d f hd hf hs
  · intro id
    have hle : slotCount storing id ≤ ((List.finRange 16).countP (fun i => (slotState storing i).downlink.isSome)) := by
      unfold slotCount
      refine List.countP_mono_left ?_
      intro i _ h
      cases hd : (slotState storing i).downlink with
      | none => simp [SlotState.isOf, hd] at h
      | some d => rfl
    exact hle.trans (by decide +kernel)
  · intro i d h
    rcases stations i d h with ⟨-, rfl⟩ | ⟨-, rfl⟩ | ⟨-, rfl⟩ <;> decide
  · intro i j d f hd hf hs _; exact same i j d f hd hf hs
  · intro i j d f ha hd hf hs
    have hj : (slotState storing j).downlink = some f := by rw [hf]; rfl
    obtain rfl := same i j d f hd hj hs
    rw [hf] at ha; cases ha
  · intro i d h
    have hd : (slotState storing i).downlink = some d := by
      rcases h with h | ⟨o, c, h⟩ <;> rw [h] <;> rfl
    rcases stations i d hd with ⟨-, rfl⟩ | ⟨-, rfl⟩ | ⟨-, rfl⟩ <;> decide
  · intro h; cases h
  · intro d h; cases h
  · exact ⟨fun _ _ _ _ => rfl, fun rest h => (by cases h)⟩
  · refine ⟨fun snap i n l h hl => ?_, fun l rest h => (by cases h)⟩
    cases h
    have : snapshot.levels[100]? = some false := by decide +kernel
    exact (Option.some.inj (this.symm.trans hl))

end Sys2Proof.Tests
end

/-!
The station table and the records: what an operation leaves of the entries, the records and the slots, and the
operations that do more than drop some of them.
-/

namespace Sys2Proof.Machine

/-! ## Places of a vector -/

theorem vector_set_fin {α : Type} {n : Nat} (v : Vector α n) (i j : Fin n) (x : α) :
    (v.set i x)[j] = if j = i then x else v[j] := by
  simp [Vector.getElem_set, Fin.ext_iff, eq_comm]

@[simp] theorem vector_set_fin_self {α : Type} {n : Nat} (v : Vector α n) (i : Fin n) (x : α) :
    (v.set i x)[i] = x := by
  simp

theorem vector_set_fin_ne {α : Type} {n : Nat} (v : Vector α n) {i j : Fin n} (h : j ≠ i) (x : α) :
    (v.set i x)[j] = v[j] := by
  rw [vector_set_fin, if_neg h]

theorem slotState_setSlot (i j : Fin 16) (st : SlotState) (s : State) :
    slotState (setSlot i st s) j = if j = i then st else slotState s j := by
  unfold slotState
  rw [setSlot_dls_places, vector_set_fin]
  split <;> rfl

/-! ## The invariant in terms of places, telegrams and claims -/

/-- The static fields of an entry (R2). -/
def Entry.static (e : Entry) : StationId × Origin × Settings := (e.station, e.origin, e.settings)

/-- What identifies the telegram of a record (R44). -/
def Record.telegram (r : Record) : StationId × Byte := (r.station, r.sequence)

/-- The station that a slot keeps its PINNED entry for (R71): none in FREE and REPORTING. -/
def SlotState.claims : SlotState → Option StationId
  | .held d => some d.station
  | .armed d _ _ => some d.station
  | .sending d => some d.station
  | .awaitConfirm d => some d.station
  | .free => none
  | .reporting _ _ _ => none

/-- A GATHERING record or a slot keeps the PINNED entry of this station (R60, R71). -/
def Claimed (s : State) (id : StationId) : Prop :=
  (∃ r ∈ s.rpf.records, r.isGathering = true ∧ r.station = id) ∨ ∃ i, (slotState s i).claims = some id

/-- Some place holds a PINNED entry of this station. -/
def StationTable.Pinned (t : StationTable) (id : StationId) : Prop :=
  ∃ (i : Fin 64) (e : Entry), t.places[i] = some e ∧ e.station = id ∧ e.origin = .pinned

/-- One entry for a station (R1), and LEARNED entries IMMEDIATE with reply disabled (R7, R11). -/
structure StationTable.Sound (t : StationTable) : Prop where
  unique : ∀ (i j : Fin 64) (e f : Entry), t.places[i] = some e → t.places[j] = some f →
    e.station = f.station → i = j
  learned : ∀ (i : Fin 64) (e : Entry), t.places[i] = some e → e.origin = .learned →
    e.settings.mode = .immediate ∧ e.settings.replyEnabled = false

/-- In a table with one entry for a station, lookup finds the entry that a place holds. -/
theorem StationTable.Sound.lookup {t : StationTable} (h : t.Sound) {i : Fin 64} {e : Entry}
    (he : t.places[i] = some e) : lookup t e.station = some (i, e) := by
  cases hl : Machine.lookup t e.station with
  | none => exact absurd rfl (lookup_none.mp hl i e he)
  | some p =>
    obtain ⟨j, f⟩ := p
    obtain ⟨hf, hs⟩ := lookup_some hl
    obtain rfl := h.unique j i f e hf he hs
    rw [hf] at he
    rw [Option.some.inj he]

theorem StationTable.Sound.hasPinned_iff {s : State} (h : s.stab.Sound) {id : StationId} :
    hasPinned s id ↔ s.stab.Pinned id := by
  constructor
  · rintro ⟨i, e, hl, ho⟩
    obtain ⟨hi, hs⟩ := lookup_some hl
    exact ⟨i, e, hi, hs, ho⟩
  · rintro ⟨i, e, hi, rfl, ho⟩
    exact ⟨i, e, h.lookup hi, ho⟩

theorem SlotState.claims_eq_some {st : SlotState} {id : StationId} :
    st.claims = some id ↔ ∃ d : Downlink, d.station = id ∧
      (st = .held d ∨ st = .sending d ∨ st = .awaitConfirm d ∨ ∃ o c, st = .armed d o c) := by
  cases st <;> simp [SlotState.claims]

/-- The invariant of the table: a sound table, at most 48 records of distinct telegrams, and a PINNED entry for
every claim. -/
theorem tableInv_iff {s : State} :
    TableInv s ↔ s.stab.Sound ∧ s.rpf.records.length ≤ 48 ∧ (s.rpf.records.map Record.telegram).Nodup ∧
      ∀ id, Claimed s id → s.stab.Pinned id := by
  have hdistinct : s.rpf.records.Pairwise (fun r q => ¬ (r.station = q.station ∧ r.sequence = q.sequence)) ↔
      (s.rpf.records.map Record.telegram).Nodup := by
    simp [List.Nodup, List.pairwise_map, Record.telegram]
  constructor
  · intro h
    have hsound : s.stab.Sound := ⟨h.entries, h.learned⟩
    refine ⟨hsound, h.records, hdistinct.mp h.telegrams, ?_⟩
    rintro id (⟨r, hr, hg, rfl⟩ | ⟨i, hi⟩)
    · exact hsound.hasPinned_iff.mp (h.gathering r hr hg)
    · obtain ⟨d, rfl, hd⟩ := SlotState.claims_eq_some.mp hi
      exact hsound.hasPinned_iff.mp (h.live i d hd)
  · rintro ⟨hsound, hrecords, htelegrams, hclaims⟩
    refine ⟨hsound.unique, hsound.learned, hrecords, hdistinct.mpr htelegrams, ?_, ?_⟩
    · exact fun r hr hg => hsound.hasPinned_iff.mpr (hclaims _ (.inl ⟨r, hr, hg, rfl⟩))
    · exact fun i d hd => hsound.hasPinned_iff.mpr
        (hclaims _ (.inr ⟨i, SlotState.claims_eq_some.mpr ⟨d, rfl, hd⟩⟩))

/-! ## Operations that add no entry, no record and no claim -/

/-- `t` holds the entries of `s` but for their dynamic fields, and no telegram and no claim that `s` does not
hold. -/
structure Shrinks (s t : State) : Prop where
  entries : ∀ i : Fin 64, (t.stab.places[i]).map Entry.static = (s.stab.places[i]).map Entry.static
  telegrams : (t.rpf.records.map Record.telegram).Sublist (s.rpf.records.map Record.telegram)
  claims : ∀ id, Claimed t id → Claimed s id

theorem Shrinks.trans {s t u : State} (h : Shrinks s t) (g : Shrinks t u) : Shrinks s u :=
  ⟨fun i => (g.entries i).trans (h.entries i), g.telegrams.trans h.telegrams,
    fun id hu => h.claims id (g.claims id hu)⟩

/-- Slots alone change, and none takes up a claim. -/
theorem Shrinks.of_slots {s t : State} (hp : t.stab.places = s.stab.places) (hr : t.rpf.records = s.rpf.records)
    (hs : ∀ i, (slotState t i).claims = none ∨ (slotState t i).claims = (slotState s i).claims) :
    Shrinks s t := by
  refine ⟨fun i => by rw [hp], by rw [hr], ?_⟩
  rintro id (h | ⟨i, hi⟩)
  · rw [hr] at h; exact .inl h
  · rcases hs i with hn | he
    · rw [hn] at hi; cases hi
    · exact .inr ⟨i, he ▸ hi⟩

/-- The places of the table, the records and the slots stay as they are. -/
theorem Shrinks.of_eq {s t : State} (hp : t.stab.places = s.stab.places) (hr : t.rpf.records = s.rpf.records)
    (hd : t.dls.places = s.dls.places) : Shrinks s t :=
  .of_slots hp hr (fun i => .inr (by unfold slotState; rw [hd]))

/-- What shrinks `t` shrinks `s` too, when `t` has the places, the records and the slots of `s`. -/
theorem Shrinks.from_eq {s t u : State} (g : Shrinks t u) (hp : t.stab.places = s.stab.places)
    (hr : t.rpf.records = s.rpf.records) (hd : t.dls.places = s.dls.places) : Shrinks s u :=
  (Shrinks.of_eq hp hr hd).trans g

theorem Shrinks.refl (s : State) : Shrinks s s := .of_eq rfl rfl rfl

/-- Records alone change: some leave, and none begins to gather. -/
theorem Shrinks.of_records {s t : State} (hp : t.stab.places = s.stab.places)
    (hk : (t.rpf.records.map Record.telegram).Sublist (s.rpf.records.map Record.telegram))
    (hg : ∀ r ∈ t.rpf.records, r.isGathering = true →
      ∃ q ∈ s.rpf.records, q.isGathering = true ∧ q.station = r.station)
    (hd : t.dls.places = s.dls.places) : Shrinks s t := by
  refine ⟨fun i => by rw [hp], hk, ?_⟩
  rintro id (⟨r, hr, hgr, rfl⟩ | ⟨i, hi⟩)
  · exact .inl (hg r hr hgr)
  · exact .inr ⟨i, by unfold slotState at hi ⊢; rwa [← hd]⟩

/-- An entry of the first state stands, with its static fields, in the second, and the other way round. -/
theorem Shrinks.entry {s t : State} (h : Shrinks s t) {i : Fin 64} {e : Entry} (he : t.stab.places[i] = some e) :
    ∃ f, s.stab.places[i] = some f ∧ f.station = e.station ∧ f.origin = e.origin ∧ f.settings = e.settings := by
  have hi := h.entries i
  rw [he, Option.map_some] at hi
  obtain ⟨f, hf, hfe⟩ := Option.map_eq_some_iff.mp hi.symm
  simp only [Entry.static, Prod.mk.injEq] at hfe
  exact ⟨f, hf, hfe⟩

theorem Shrinks.pinned {s t : State} (h : Shrinks s t) {id : StationId} (hp : s.stab.Pinned id) :
    t.stab.Pinned id := by
  obtain ⟨i, e, he, hs, ho⟩ := hp
  have hi := h.entries i
  rw [he, Option.map_some] at hi
  obtain ⟨f, hf, hfe⟩ := Option.map_eq_some_iff.mp hi
  simp only [Entry.static, Prod.mk.injEq] at hfe
  obtain ⟨hfs, hfo, -⟩ := hfe
  exact ⟨i, f, hf, hfs.trans hs, hfo.trans ho⟩

theorem Shrinks.sound {s t : State} (h : Shrinks s t) (hs : s.stab.Sound) : t.stab.Sound := by
  constructor
  · intro i j e f hi hj hef
    obtain ⟨e', hi', he', -⟩ := h.entry hi
    obtain ⟨f', hj', hf', -⟩ := h.entry hj
    exact hs.unique i j e' f' hi' hj' (he'.trans (hef.trans hf'.symm))
  · intro i e hi ho
    obtain ⟨e', hi', -, ho', hset⟩ := h.entry hi
    rw [← hset]
    exact hs.learned i e' hi' (ho'.trans ho)

theorem Shrinks.length_le {s t : State} (h : Shrinks s t) : t.rpf.records.length ≤ s.rpf.records.length := by
  simpa using h.telegrams.length_le

/-- What only shrinks keeps the invariant. -/
theorem TableInv.shrink {s t : State} (hs : TableInv s) (h : Shrinks s t) : TableInv t := by
  obtain ⟨hsound, hrecords, htelegrams, hclaims⟩ := tableInv_iff.mp hs
  exact tableInv_iff.mpr ⟨h.sound hsound, h.length_le.trans hrecords, h.telegrams.nodup htelegrams,
    fun id hc => h.pinned (hclaims id (h.claims id hc))⟩

/-! ### Causes and offers -/

theorem raise_shrinks (c : Cause) (s : State) : Shrinks s (raise c s) := by
  rw [raise_frame]; exact .of_eq rfl rfl rfl

theorem offerTelegram_shrinks (t : TelegramItem) (s : State) : Shrinks s (offerTelegram t s) := by
  rw [offerTelegram_frame]; exact .of_eq rfl rfl rfl

/-! ### Records -/

/-- A change of a record that keeps its telegram and begins no gathering. -/
structure RecordCalm (f : Record → Record) : Prop where
  telegram : ∀ r, (f r).telegram = r.telegram
  gathering : ∀ r, (f r).isGathering = true → r.isGathering = true

theorem settle_calm : RecordCalm Record.settle := ⟨fun _ => rfl, fun _ h => by cases h⟩

theorem conflicted_calm : RecordCalm Record.conflicted := ⟨fun _ => rfl, fun _ h => h⟩

theorem merge_calm (c : Copy) : RecordCalm (fun r => r.merge c) := by
  constructor
  · intro r; unfold Record.merge; split <;> rfl
  · intro r h
    unfold Record.merge at h
    split at h
    · exact h
    · exact h

/-- Records changed calmly, all of them or those of a test. -/
theorem mapRecords_shrinks {f : Record → Record} (hf : RecordCalm f) (p : Record → Bool) (s : State) :
    Shrinks s { s with rpf.records := s.rpf.records.map (fun r => if p r then f r else r) } := by
  refine .of_records rfl ?_ ?_ rfl
  · rw [List.map_map]
    refine (List.map_congr_left fun r _ => ?_) ▸ List.Sublist.refl _
    simp only [Function.comp_apply]
    split
    · exact (hf.telegram r).symm
    · rfl
  · intro r hr hg
    obtain ⟨q, hq, rfl⟩ := List.mem_map.mp hr
    split at hg
    · have := hf.telegram q
      simp only [Record.telegram, Prod.mk.injEq] at this
      refine ⟨q, hq, hf.gathering q hg, ?_⟩
      rw [if_pos ‹_›, this.1]
    · exact ⟨q, hq, hg, by rw [if_neg ‹_›]⟩

theorem mapRecord_shrinks {f : Record → Record} (hf : RecordCalm f) (id : StationId) (q : Byte) (s : State) :
    Shrinks s (mapRecord id q f s) := mapRecords_shrinks hf (fun r => r.isOf id q) s

theorem dropRecord_shrinks (id : StationId) (q : Byte) (s : State) : Shrinks s (dropRecord id q s) := by
  refine .of_records rfl (List.filter_sublist.map _) ?_ rfl
  intro r hr hg
  exact ⟨r, (List.mem_filter.mp hr).1, hg, rfl⟩

theorem closeRecord_shrinks (r : Record) (b : Bool) (s : State) : Shrinks s (closeRecord r b s) :=
  (mapRecord_shrinks settle_calm _ _ _).trans (offerTelegram_shrinks _ _)

theorem makePlace_shrinks (s : State) : Shrinks s (makePlace s) := by
  have hcounted : ∀ t : State, Shrinks t
      (raise .rtlPressure { t with rpf.counters.evictions := bump t.rpf.counters.evictions }) :=
    fun t => (raise_shrinks _ _).from_eq rfl rfl rfl
  unfold makePlace
  dsimp only
  split
  · exact (dropRecord_shrinks _ _ _).trans (hcounted _)
  · split
    · exact .refl s
    · exact ((closeRecord_shrinks _ _ _).trans (dropRecord_shrinks _ _ _)).trans (hcounted _)

theorem offerItems_shrinks (l : List Record) (s : State) :
    Shrinks s (l.foldl (fun t r => offerTelegram (recordItem r none true) t) s) := by
  induction l generalizing s with
  | nil => exact .refl s
  | cons r l ih => exact (offerTelegram_shrinks _ _).trans (ih _)

theorem closureClaim_shrinks (id : StationId) (s : State) : Shrinks s (closureClaim id s) :=
  (mapRecords_shrinks settle_calm (fun r => r.station == id) s).trans (offerItems_shrinks _ _)

/-! ### Slots -/

theorem setSlot_shrinks {i : Fin 16} {st : SlotState} {s : State}
    (h : st.claims = none ∨ st.claims = (slotState s i).claims) : Shrinks s (setSlot i st s) := by
  refine .of_slots rfl rfl fun j => ?_
  rw [slotState_setSlot]
  split
  · subst j; exact h
  · exact .inr rfl

theorem reachResult_shrinks (i : Fin 16) (d : Downlink) (r : DownlinkResult) (s : State) :
    Shrinks s (reachResult i d r s) :=
  (setSlot_shrinks (st := .reporting d r s.now) (.inl rfl)).trans (.of_eq rfl rfl rfl)

theorem missWindow_shrinks {i : Fin 16} {d : Downlink} {s : State}
    (h : (slotState s i).claims = some d.station) : Shrinks s (missWindow i d s) := by
  have hheld : Shrinks s (setSlot i (.held d) s) := setSlot_shrinks (.inr h.symm)
  unfold missWindow
  exact hheld.trans ((raise_shrinks _ _).from_eq rfl rfl rfl)

theorem grant_shrinks (i : Fin 16) (s : State) : Shrinks s (grant i s) := by
  unfold grant
  split
  · rename_i d o c h
    exact (setSlot_shrinks (st := .sending d.granted) (.inr (by rw [h]; rfl))).trans (.of_eq rfl rfl rfl)
  all_goals exact .refl s

theorem arbiter_shrinks (s : State) : Shrinks s (arbiter s) := by
  unfold arbiter
  split
  · split
    · exact grant_shrinks _ _
    · exact .refl s
  all_goals exact .refl s

theorem offerSlot_shrinks (i : Fin 16) (s : State) : Shrinks s (offerSlot i s) :=
  (arbiter_shrinks (joinCandidates i s)).from_eq rfl rfl rfl

theorem countStaleConfirm_shrinks (n : FirstCopy) (s : State) : Shrinks s (countStaleConfirm n s) := by
  rw [countStaleConfirm_frame]; exact .of_eq rfl rfl rfl

theorem slotState_countStaleConfirm (n : FirstCopy) (s : State) (i : Fin 16) :
    slotState (countStaleConfirm n s) i = slotState s i := by
  rw [countStaleConfirm_frame]; rfl

theorem confirmStep_shrinks (n : FirstCopy) (s : State) : Shrinks s (confirmStep n s) := by
  have hheld : ∀ (i : Fin 16) (d : Downlink), (slotState s i).claims = some d.station →
      Shrinks s (setSlot i (.held d) (countStaleConfirm n s)) := fun i d h =>
    (countStaleConfirm_shrinks n s).trans
      (setSlot_shrinks (.inr (by rw [slotState_countStaleConfirm, h]; rfl)))
  unfold confirmStep
  split
  · exact countStaleConfirm_shrinks n s
  · split
    · rename_i i _ _ d h
      split
      · exact reachResult_shrinks _ _ _ _
      · split
        · exact (countStaleConfirm_shrinks n s).trans (reachResult_shrinks _ _ _ _)
        · exact hheld i d (by rw [h]; rfl)
    · rename_i i _ _ d _ _ h
      exact (hheld i d (by rw [h]; rfl)).trans (.of_eq rfl rfl rfl)
    · exact (countStaleConfirm_shrinks _ _).from_eq rfl rfl rfl
    all_goals exact .refl s

theorem armSlot_shrinks {i : Fin 16} {d : Downlink} {s : State} (n : FirstCopy) (e : Settings)
    (h : (slotState s i).claims = some d.station) : Shrinks s (armSlot i d n e s) := by
  have harmed : Shrinks s (setSlot i (.armed d (windowOpenOf n e) (windowCloseOf n e)) s) :=
    setSlot_shrinks (.inr h.symm)
  unfold armSlot
  dsimp only
  split
  · exact harmed.trans (missWindow_shrinks (by rw [slotState_setSlot, if_pos rfl]; rfl))
  · split
    · exact harmed.trans (offerSlot_shrinks _ _)
    · exact harmed

theorem armStep_shrinks (n : FirstCopy) (s : State) : Shrinks s (armStep n s) := by
  unfold armStep
  split
  · exact .refl s
  · split
    · split
      · exact .refl s
      · split
        · rename_i d h
          exact armSlot_shrinks _ _ (by rw [h]; rfl)
        all_goals exact .refl s
    · exact .refl s

theorem notifyStore_shrinks (n : FirstCopy) (s : State) : Shrinks s (notifyStore n s) :=
  (confirmStep_shrinks n s).trans (armStep_shrinks n _)

theorem discardSlot_shrinks (id : StationId) (s : State) (i : Fin 16) : Shrinks s (discardSlot id s i) := by
  unfold discardSlot
  split
  case h_4 | h_5 | h_6 => exact .refl s
  all_goals
    split
    · exact reachResult_shrinks _ _ _ _
    · exact .refl s

theorem takeTransmissionEnd_shrinks (i : Fin 16) (s : State) : Shrinks s (takeTransmissionEnd i s) := by
  unfold takeTransmissionEnd
  split
  · rename_i d h
    split
    · exact reachResult_shrinks _ _ _ _
    · exact setSlot_shrinks (.inr (by rw [h]; rfl))
  all_goals exact .refl s

/-! ### Items and sessions -/

theorem releaseItem_shrinks (s : State) (it : Item) : Shrinks s (releaseItem s it) := by
  cases it with
  | telegram _ => exact .refl s
  | outcome o => exact setSlot_shrinks (.inl rfl)

theorem releaseItems_shrinks (its : List Item) (s : State) : Shrinks s (its.foldl releaseItem s) := by
  induction its generalizing s with
  | nil => exact .refl s
  | cons it its ih => exact (releaseItem_shrinks _ _).trans (ih _)

theorem takeAck_shrinks (n : Byte) (s : State) : Shrinks s (takeAck n s) := by
  have hremoved : Shrinks s (removeAcked (ackCount s.dst n) s) :=
    (releaseItems_shrinks _ _).from_eq rfl rfl rfl
  unfold takeAck
  split
  · dsimp only
    split
    · split
      · exact hremoved
      · exact hremoved.trans (.of_eq rfl rfl rfl)
    · exact hremoved.trans (.of_eq rfl rfl rfl)
  · exact .of_eq rfl rfl rfl

theorem timerExpires_shrinks (s : State) : Shrinks s (timerExpires s) := by
  obtain ⟨_, _, _, _, h⟩ := timerExpires_frame s
  rw [h]; exact .of_eq rfl rfl rfl

theorem closeSession_shrinks (s : State) : Shrinks s (closeSession s) := by
  obtain ⟨_, _, _, _, _, _, _, _, _, _, h⟩ := closeSession_frame s
  rw [h]; exact .of_eq rfl rfl rfl

theorem streamOpen_shrinks (mode : OpenMode) (s : State) : Shrinks s (streamOpen mode s) := by
  cases mode with
  | resume => exact .of_eq rfl rfl rfl
  | fresh =>
    have hreleased : Shrinks s (s.dst.waiting.foldl releaseItem
        { s with
          dst.waiting := []
          dst.counters.droppedAtFresh :=
            bumpBy (s.dst.waiting.countP Item.isTelegram) s.dst.counters.droppedAtFresh }) :=
      (releaseItems_shrinks _ _).from_eq rfl rfl rfl
    exact hreleased.trans (.of_eq rfl rfl rfl)

theorem openSession_shrinks (mode : OpenMode) (s : State) : Shrinks s (openSession mode s) := by
  have hopened : ∀ t : State, Shrinks t (openClosedSession mode t) := by
    intro t
    have hstream : Shrinks t (streamOpen mode
        { t with
          trk.session := .opened none
          trk.streamWait := 0
          trk.counters.opens := bump t.trk.counters.opens }) := (streamOpen_shrinks mode _).from_eq rfl rfl rfl
    unfold openClosedSession
    dsimp only
    rw [joinAllNotices_frame]
    exact hstream.trans (.of_eq rfl rfl rfl)
  exact (closeSession_shrinks s).trans (hopened _)

/-! ### Resets -/

theorem restartAlarm_shrinks (s : State) : Shrinks s (restartAlarm s) := by
  have hraised : Shrinks s (raise .restarted
      { clearAllCauses s with
        alm.burstCount := 0
        alm.renotifyDeadline := after s.now (s.alm.renotifyS * 1000) }) := (raise_shrinks _ _).from_eq rfl rfl rfl
  exact hraised.trans (.of_eq rfl rfl rfl)

/-- A warm restart keeps the static fields of every entry, and empties the record list and the slots. -/
theorem warmRestart_shrinks (s : State) : Shrinks s (warmRestart s) := by
  refine Shrinks.trans ?_ (restartAlarm_shrinks _)
  refine ⟨fun i => ?_, List.nil_sublist _, ?_⟩
  · cases h : s.stab.places[i] <;> simp_all [Entry.restarted, Entry.static]
  · rintro id (⟨r, hr, -⟩ | ⟨i, hi⟩)
    · cases hr
    · simp [slotState, SlotState.claims] at hi

theorem engineReleased_shrinks (s : State) : Shrinks s (engineReleased s) := by
  unfold engineReleased
  split
  · exact .refl s
  · exact .of_eq rfl rfl rfl
  · exact (warmRestart_shrinks s).trans (.of_eq rfl rfl rfl)

/-! ### The sender and the trunk receiver -/

theorem senderDecides_shrinks (s : State) : Shrinks s (senderDecides s) := by
  obtain ⟨_, _, _, _, _, _, _, _, _, _, _, _, h⟩ := senderDecides_frame s
  rw [h]; exact .of_eq rfl rfl rfl

theorem discardContent_shrinks (f : ContentFault) (s : State) : Shrinks s (discardContent f s) :=
  (raise_shrinks .trunkRxError
    { s with trk.assembler := assemblerAfter f, trk.counters := countFault f s.trk.counters }).from_eq rfl rfl rfl

theorem takeLineError_shrinks (s : State) : Shrinks s (takeLineError s) :=
  (raise_shrinks .trunkRxError
    { s with trk.assembler := .hunt, trk.counters.lineErrors := bump s.trk.counters.lineErrors }).from_eq
      rfl rfl rfl

theorem countValid_shrinks (s : State) : Shrinks s (countValid s) := by
  unfold countValid
  obtain ⟨_, h⟩ := restartIdle_frame { s with trk.counters.validFrames := bump s.trk.counters.validFrames }
  rw [h]; exact .of_eq rfl rfl rfl

theorem holdRequest_shrinks (tag : Byte) (body : List Byte) (s : State) : Shrinks s (holdRequest tag body s) := by
  unfold holdRequest
  split
  · exact .of_eq rfl rfl rfl
  · exact (raise_shrinks _ _).from_eq rfl rfl rfl

theorem receiveFrame_shrinks (kind tag : Byte) (body : List Byte) (s : State) :
    Shrinks s (receiveFrame kind tag body s) := by
  have hvalid : Shrinks s (countValid (newContent s)) := (countValid_shrinks _).from_eq rfl rfl rfl
  unfold receiveFrame
  split
  · exact (discardContent_shrinks _ _).trans (.of_eq rfl rfl rfl)
  · split
    · split
      · exact hvalid.trans (takeAck_shrinks _ _)
      · exact .of_eq rfl rfl rfl
    · split
      · exact hvalid.trans (holdRequest_shrinks _ _ _)
      · exact .of_eq rfl rfl rfl

theorem endContent_shrinks (content : List Byte) (s : State) : Shrinks s (endContent content s) := by
  unfold endContent
  split
  · exact .of_eq rfl rfl rfl
  · split
    · exact discardContent_shrinks _ _
    · dsimp only
      split
      · exact receiveFrame_shrinks _ _ _ _
      · exact discardContent_shrinks _ _
  · exact discardContent_shrinks _ _

theorem addContent_shrinks (content : List Byte) (b : Byte) (s : State) : Shrinks s (addContent content b s) := by
  unfold addContent
  split
  · exact discardContent_shrinks _ _
  · exact .of_eq rfl rfl rfl

theorem byteEffect_shrinks (b : Byte) (s : State) : Shrinks s (byteEffect b s) := by
  unfold byteEffect
  split
  case h_1 => split; exacts [.of_eq rfl rfl rfl, .refl s]
  case h_2 content _ =>
    split
    · exact endContent_shrinks _ _
    · split
      · exact .of_eq rfl rfl rfl
      · exact addContent_shrinks _ _ _
  case h_3 content _ =>
    split
    · exact addContent_shrinks _ _ _
    · split
      · exact addContent_shrinks _ _ _
      · split <;> exact discardContent_shrinks _ _

theorem takeSamples_shrinks (due : Nat → Bool) (n : Nat) (s : State) : Shrinks s (takeSamples due n s) := by
  rcases takeSamples_frame due n s with ⟨x, h⟩ | ⟨b, h⟩ | h
  · rw [h]; exact .of_eq rfl rfl rfl
  · rw [h]; exact (byteEffect_shrinks _ _).from_eq rfl rfl rfl
  · rw [h]; exact (takeLineError_shrinks _).from_eq rfl rfl rfl

theorem trunkEdge_shrinks (rising : Bool) (time : Nat) (s : State) : Shrinks s (trunkEdge rising time s) := by
  obtain ⟨x, h⟩ := trunkEdge_frame rising time s
  rw [h]; exact (takeSamples_shrinks _ _ _).trans (.of_eq rfl rfl rfl)

theorem frameEnds_shrinks (s : State) : Shrinks s (frameEnds s) := by
  unfold frameEnds
  split
  · exact .refl s
  · dsimp only
    split
    · split
      · refine Shrinks.trans ?_ (engineReleased_shrinks _)
        exact (closeSession_shrinks _).from_eq rfl rfl rfl
      · exact .of_eq rfl rfl rfl
    all_goals exact .of_eq rfl rfl rfl

theorem idleTimeout_shrinks (s : State) : Shrinks s (idleTimeout s) := by
  unfold idleTimeout
  dsimp only
  split
  · refine Shrinks.trans ?_ (engineReleased_shrinks _)
    exact (closeSession_shrinks s).trans (.of_eq rfl rfl rfl)
  · exact (closeSession_shrinks s).trans (.of_eq rfl rfl rfl)

/-! ### The receivers -/

theorem setRxState_shrinks (ch : Channel) (st : RxState) (s : State) : Shrinks s (setRxState ch st s) :=
  .of_eq (by simp) (by simp) (by simp)

theorem losePreamble_shrinks (ch : Channel) (s : State) : Shrinks s (losePreamble ch s) :=
  .of_eq (by simp) (by simp) (by simp)

theorem missSync_shrinks (ch : Channel) (s : State) : Shrinks s (missSync ch s) :=
  .of_eq (by simp) (by simp) (by simp)

theorem reportReceiverError_shrinks (s : State) : Shrinks s (reportReceiverError s) := by
  unfold reportReceiverError
  dsimp only
  split
  · exact (raise_shrinks _ _).from_eq rfl rfl rfl
  · exact .of_eq rfl rfl rfl

theorem bodyError_shrinks (ch : Channel) (e : BodyError) (s : State) : Shrinks s (bodyError ch e s) :=
  (reportReceiverError_shrinks _).from_eq (by simp) (by simp) (by simp)

theorem violation_shrinks (ch : Channel) (s : State) : Shrinks s (violation ch s) := by
  unfold violation
  split
  case h_1 => exact .refl s
  case h_5 => exact bodyError_shrinks _ _ _
  all_goals exact losePreamble_shrinks _ _

theorem setProgress_shrinks (ch : Channel) (p : CellProgress) (s : State) : Shrinks s (setProgress ch p s) := by
  unfold setProgress
  split
  case h_1 | h_2 => exact .refl s
  all_goals exact setRxState_shrinks _ _ _

theorem setEnable_shrinks (ch : Channel) (on : Bool) (s : State) : Shrinks s (setEnable ch on s) := by
  have hon : ∀ t : State, Shrinks t (enableReceiver ch t) := by
    intro t
    unfold enableReceiver
    split
    · exact .refl t
    · exact .of_eq (by simp) (by simp) (by simp)
  have hoff : ∀ t : State, Shrinks t (disableReceiver ch t) := by
    intro t
    unfold disableReceiver
    dsimp only
    split
    · exact .of_eq (by simp) (by simp) (by simp)
    · exact setRxState_shrinks _ _ _
  unfold setEnable
  dsimp only
  cases on with
  | true => cases ch <;> exact (hon _).from_eq rfl rfl rfl
  | false => cases ch <;> exact (hoff _).from_eq rfl rfl rfl

end Sys2Proof.Machine

namespace Sys2Proof.Machine

/-! ## Operations on the table -/

/-- An entry changes its dynamic fields alone. -/
theorem setPlace_shrinks {i : Fin 64} {e f : Entry} {s : State} (h : s.stab.places[i] = some e)
    (hf : f.static = e.static) : Shrinks s (setPlace i (some f) s) := by
  refine ⟨fun j => ?_, List.Sublist.refl _, fun _ hc => hc⟩
  rw [setPlace_stab_places, vector_set_fin]
  split
  · subst j; rw [h, Option.map_some, Option.map_some, hf]
  · rfl

/-- An entry stands in a place where no PINNED entry of another station stood, and no other place has its
station. -/
theorem setPlace_tableInv {i : Fin 64} {e : Entry} {s : State} (hs : TableInv s)
    (hother : ∀ j f, j ≠ i → s.stab.places[j] = some f → f.station ≠ e.station)
    (hlearned : e.origin = .learned → e.settings.mode = .immediate ∧ e.settings.replyEnabled = false)
    (hpinned : ∀ f, s.stab.places[i] = some f → f.origin = .pinned → e.station = f.station ∧ e.origin = .pinned) :
    TableInv (setPlace i (some e) s) := by
  obtain ⟨hsound, hrecords, htelegrams, hclaims⟩ := tableInv_iff.mp hs
  refine tableInv_iff.mpr ⟨⟨?_, ?_⟩, hrecords, htelegrams, ?_⟩
  · intro j k f g hf hg hfg
    rw [setPlace_stab_places, vector_set_fin] at hf hg
    split at hf <;> split at hg
    · exact ‹j = i›.trans ‹k = i›.symm
    · cases hf; exact absurd hfg.symm (hother k g ‹_› hg)
    · cases hg; exact absurd hfg (hother j f ‹_› hf)
    · exact hsound.unique j k f g hf hg hfg
  · intro j f hf ho
    rw [setPlace_stab_places, vector_set_fin] at hf
    split at hf
    · cases hf; exact hlearned ho
    · exact hsound.learned j f hf ho
  · intro id hc
    obtain ⟨j, f, hf, hid, ho⟩ := hclaims id hc
    by_cases hj : j = i
    · subst j
      obtain ⟨hst, hor⟩ := hpinned f hf ho
      exact ⟨i, e, by rw [setPlace_stab_places, vector_set_fin, if_pos rfl], hst.trans hid, hor⟩
    · exact ⟨j, f, by rw [setPlace_stab_places, vector_set_fin, if_neg hj, hf], hid, ho⟩

/-- R11: an eviction takes a LEARNED entry. -/
theorem evictee_learned {now : PartTime} {t : StationTable} {i : Fin 64} (h : evictee now t = some i) :
    ∃ e, t.places[i] = some e ∧ e.origin = .learned := by
  obtain ⟨before, others, hl, -, -⟩ := firstMax_some _ _ _ h
  have hi : i ∈ (List.finRange 64).filter (eligible t) := by rw [hl]; simp
  have he := (List.mem_filter.mp hi).2
  unfold eligible at he
  cases hp : t.places[i] with
  | none => rw [hp] at he; cases he
  | some e => rw [hp] at he; exact ⟨e, rfl, by simpa using he⟩

/-- R10, R18: the place of a new entry holds no PINNED entry. -/
theorem placeForNew_learned {now : PartTime} {t : StationTable} {i : Fin 64} (h : placeForNew now t = some i)
    {f : Entry} (hf : t.places[i] = some f) : f.origin = .learned := by
  unfold placeForNew at h
  split at h
  · rename_i j hj
    obtain rfl := Option.some.inj h
    rw [(freePlace_some hj).1] at hf
    cases hf
  · obtain ⟨e, he, ho⟩ := evictee_learned h
    rw [he] at hf
    exact Option.some.inj hf ▸ ho

/-- R10, R18: a new entry for a station that has none. -/
theorem newEntry_tableInv {now : PartTime} {i : Fin 64} {e : Entry} {s : State} (hs : TableInv s)
    (hnone : lookup s.stab e.station = none) (hi : placeForNew now s.stab = some i)
    (hlearned : e.origin = .learned → e.settings.mode = .immediate ∧ e.settings.replyEnabled = false) :
    TableInv (setPlace i (some e) s) := by
  refine setPlace_tableInv hs (fun j f _ hf => lookup_none.mp hnone j f hf) hlearned fun f hf ho => ?_
  rw [placeForNew_learned hi hf] at ho
  cases ho

theorem learn_tableInv {id : StationId} {s : State} (hs : TableInv s) (hnone : lookup s.stab id = none) :
    TableInv (learn id s).1 := by
  unfold learn
  split
  · rename_i i hi
    have hentry : TableInv (setPlace i (some (newEntry id .learned s.stab.template)) s) :=
      newEntry_tableInv hs hnone hi (fun _ => ⟨rfl, rfl⟩)
    exact hentry.shrink (.of_eq rfl rfl rfl)
  · exact hs.shrink ((raise_shrinks _ _).from_eq rfl rfl rfl)

theorem putStation_tableInv {id : StationId} {settings : Settings} {s : State} (hs : TableInv s) :
    TableInv (putStation id settings s).2 := by
  unfold putStation
  split
  · rename_i i e hl
    obtain ⟨he, rfl⟩ := lookup_some hl
    refine setPlace_tableInv hs (fun j f hj hf hst => hj (hs.entries j i f e hf he hst)) (fun h => by cases h) ?_
    intro f hf _
    rw [he] at hf
    obtain rfl := Option.some.inj hf
    exact ⟨rfl, rfl⟩
  · split
    · exact hs
    · exact newEntry_tableInv hs ‹_› ‹_› (fun h => by cases h)

/-! ### DROP-STATION -/

theorem slotState_reachResult (i j : Fin 16) (d : Downlink) (r : DownlinkResult) (s : State) :
    slotState (reachResult i d r s) j = if j = i then .reporting d r s.now else slotState s j :=
  slotState_setSlot i j _ s

/-- R86: a slot that meets a discard claim stays as it is, or it claims the station and is discarded. -/
theorem discardSlot_cases (id : StationId) (s : State) (i : Fin 16) :
    (discardSlot id s i = s ∧ ((slotState s i).claims = some id → (slotState s i).isSending = true)) ∨
      ∃ d, (slotState s i).claims = some id ∧ (slotState s i).downlink = some d ∧
        discardSlot id s i = reachResult i d .discarded s := by
  have key : ∀ d : Downlink, (slotState s i).claims = some d.station → (slotState s i).downlink = some d →
      ((if d.station = id then reachResult i d .discarded s else s) = s ∧
          ((slotState s i).claims = some id → (slotState s i).isSending = true)) ∨
        ∃ e, (slotState s i).claims = some id ∧ (slotState s i).downlink = some e ∧
          (if d.station = id then reachResult i d .discarded s else s) = reachResult i e .discarded s := by
    intro d hc hd
    by_cases hid : d.station = id
    · exact .inr ⟨d, hid ▸ hc, hd, if_pos hid⟩
    · exact .inl ⟨if_neg hid, fun h => absurd (Option.some.inj (hc.symm.trans h)) hid⟩
  unfold discardSlot
  split
  case h_1 d h => exact key d (by rw [h]; rfl) (by rw [h]; rfl)
  case h_2 d _ _ h => exact key d (by rw [h]; rfl) (by rw [h]; rfl)
  case h_3 d h => exact key d (by rw [h]; rfl) (by rw [h]; rfl)
  case h_4 h | h_5 h | h_6 h => exact .inl ⟨rfl, by rw [h]; simp [SlotState.claims, SlotState.isSending]⟩

/-- R86: a slot that meets a discard claim leaves the other slots as they are. -/
theorem discardSlot_other (id : StationId) (s : State) {i j : Fin 16} (h : j ≠ i) :
    slotState (discardSlot id s i) j = slotState s j := by
  rcases discardSlot_cases id s i with ⟨hd, -⟩ | ⟨d, -, -, hd⟩
  · rw [hd]
  · rw [hd, slotState_reachResult, if_neg h]

/-- R86: after a discard claim over some slots, a slot that still claims the station is SENDING or was not among
them. -/
theorem discardSlots_claims (id : StationId) (l : List (Fin 16)) (s : State) (j : Fin 16)
    (h : (slotState (l.foldl (discardSlot id) s) j).claims = some id) :
    slotState (l.foldl (discardSlot id) s) j = slotState s j ∧ ((slotState s j).isSending = true ∨ j ∉ l) := by
  induction l generalizing s with
  | nil => exact ⟨rfl, .inr List.not_mem_nil⟩
  | cons i l ih =>
    rw [List.foldl_cons] at h ⊢
    obtain ⟨heq, hj⟩ := ih _ h
    rw [heq] at h ⊢
    by_cases hij : j = i
    · subst j
      rcases discardSlot_cases id s i with ⟨hd, hs⟩ | ⟨d, -, -, hd⟩
      · rw [hd] at h ⊢
        exact ⟨rfl, .inl (hs h)⟩
      · rw [hd, slotState_reachResult, if_pos rfl] at h
        cases h
    · rw [discardSlot_other id s hij] at h hj ⊢
      exact ⟨rfl, hj.imp_right (by simp [hij])⟩

/-- R86: after a discard claim, a slot that still claims the station is SENDING, as it was. -/
theorem discardClaim_claims {id : StationId} {s : State} {j : Fin 16}
    (h : (slotState (discardClaim id s) j).claims = some id) :
    slotState (discardClaim id s) j = slotState s j ∧ (slotState s j).isSending = true := by
  unfold discardClaim at h ⊢
  obtain ⟨heq, hj⟩ := discardSlots_claims id _ s j h
  exact ⟨heq, hj.resolve_right (absurd (List.mem_finRange j))⟩

theorem discardClaim_shrinks (id : StationId) (s : State) : Shrinks s (discardClaim id s) := by
  unfold discardClaim
  generalize List.finRange 16 = l
  induction l generalizing s with
  | nil => exact .refl s
  | cons i l ih => exact (discardSlot_shrinks id s i).trans (ih _)

/-- R59: after a closure claim no record of the station is GATHERING. -/
theorem closureClaim_settled {id : StationId} {s : State} {r : Record} (hr : r ∈ (closureClaim id s).rpf.records)
    (hg : r.isGathering = true) : r.station ≠ id := by
  have hoffers : ∀ (l : List Record) (t : State),
      (l.foldl (fun t r => offerTelegram (recordItem r none true) t) t).rpf.records = t.rpf.records := by
    intro l
    induction l with
    | nil => intro t; rfl
    | cons q l ih => intro t; rw [List.foldl_cons, ih, offerTelegram_frame]
  unfold closureClaim at hr
  rw [hoffers] at hr
  obtain ⟨q, -, rfl⟩ := List.mem_map.mp hr
  split at hg
  · cases hg
  · rw [if_neg ‹_›]
    simpa using ‹¬ (q.station == id) = true›

theorem sendingFor_false {s : State} {id : StationId} (h : sendingFor s id = false) (i : Fin 16)
    (hc : (slotState s i).claims = some id) : (slotState s i).isSending = false := by
  obtain ⟨d, rfl, hd⟩ := SlotState.claims_eq_some.mp hc
  unfold sendingFor at h
  rw [List.any_eq_false] at h
  have hi := h i (List.mem_finRange i)
  rcases hd with hd | hd | hd | ⟨o, c, hd⟩ <;>
    simp_all [SlotState.isOf, SlotState.downlink, SlotState.isSending]

/-- R20: a station that is dropped has no claim left. -/
theorem dropStation_unclaimed {i : Fin 64} {id : StationId} {s : State} (hs : sendingFor s id = false) :
    ¬ Claimed (dropStation i id s) id := by
  obtain ⟨_, _, _, hd⟩ := discardClaim_frame id (closureClaim id (setPlace i none s))
  obtain ⟨_, _, _, _, _, hc⟩ := closureClaim_frame id (setPlace i none s)
  have hslots : ∀ j, slotState (closureClaim id (setPlace i none s)) j = slotState s j := by
    intro j; rw [hc]; rfl
  rintro (⟨r, hr, hg, hid⟩ | ⟨j, hj⟩)
  · unfold dropStation at hr
    rw [hd] at hr
    exact closureClaim_settled hr hg hid
  · unfold dropStation at hj
    obtain ⟨heq, hsend⟩ := discardClaim_claims hj
    rw [heq, hslots] at hj
    rw [hslots, sendingFor_false hs j hj] at hsend
    cases hsend

theorem StationTable.Sound.setPlace_none {s : State} (h : s.stab.Sound) (i : Fin 64) :
    (setPlace i none s).stab.Sound := by
  have hplace : ∀ (j : Fin 64) (f : Entry), (setPlace i none s).stab.places[j] = some f →
      s.stab.places[j] = some f := by
    intro j f hf
    rw [setPlace_stab_places, vector_set_fin] at hf
    split at hf
    · cases hf
    · exact hf
  exact ⟨fun j k f g hf hg => h.unique j k f g (hplace j f hf) (hplace k g hg),
    fun j f hf => h.learned j f (hplace j f hf)⟩

/-- R20: the entry of a dropped station leaves the table, and with it every claim to it. -/
theorem dropStation_tableInv {i : Fin 64} {e : Entry} {id : StationId} {s : State} (hs : TableInv s)
    (hl : lookup s.stab id = some (i, e)) (hsend : sendingFor s id = false) : TableInv (dropStation i id s) := by
  obtain ⟨hsound, hrecords, htelegrams, hclaims⟩ := tableInv_iff.mp hs
  obtain ⟨he, hid⟩ := lookup_some hl
  have hshrinks : Shrinks (setPlace i none s) (dropStation i id s) :=
    (closureClaim_shrinks _ _).trans (discardClaim_shrinks _ _)
  refine tableInv_iff.mpr ⟨hshrinks.sound (hsound.setPlace_none i), hshrinks.length_le.trans hrecords,
    hshrinks.telegrams.nodup htelegrams, fun other hc => ?_⟩
  obtain ⟨j, f, hf, hst, ho⟩ := hclaims other (hshrinks.claims other hc)
  have hj : j ≠ i := by
    rintro rfl
    rw [he] at hf
    obtain rfl := Option.some.inj hf
    obtain rfl := hst.symm.trans hid
    exact dropStation_unclaimed hsend hc
  exact hshrinks.pinned ⟨j, f, by rw [setPlace_stab_places, vector_set_fin, if_neg hj, hf], hst, ho⟩

end Sys2Proof.Machine

namespace Sys2Proof.Machine

/-! ### Copies -/

/-- R51: a record of a new telegram joins a list with room. -/
theorem addRecord_tableInv {r : Record} {s : State} (hs : TableInv s) (hroom : s.rpf.records.length < 48)
    (hnew : r.telegram ∉ s.rpf.records.map Record.telegram)
    (hpinned : r.isGathering = true → s.stab.Pinned r.station) : TableInv (addRecord r s) := by
  obtain ⟨hsound, -, htelegrams, hclaims⟩ := tableInv_iff.mp hs
  refine tableInv_iff.mpr ⟨hsound, ?_, ?_, ?_⟩
  · simpa using hroom
  · rw [addRecord_rpf_records, List.map_append, List.nodup_append_comm]
    exact List.nodup_cons.mpr ⟨hnew, htelegrams⟩
  · rintro id (⟨q, hq, hg, rfl⟩ | hslot)
    · rw [addRecord_rpf_records, List.mem_append, List.mem_singleton] at hq
      rcases hq with hq | rfl
      · exact hclaims _ (.inl ⟨q, hq, hg, rfl⟩)
      · exact hpinned hg
    · exact hclaims id (.inr hslot)

theorem dropRecord_length_lt {id : StationId} {q : Byte} {s : State} {r : Record} (hr : r ∈ s.rpf.records)
    (hid : r.isOf id q = true) : (dropRecord id q s).rpf.records.length < s.rpf.records.length := by
  rw [dropRecord_rpf_records, List.length_filter_lt_length_iff_exists]
  exact ⟨r, hr, by simp [hid]⟩

theorem isOf_self (r : Record) : r.isOf r.station r.sequence = true := by simp [Record.isOf]

/-- R53: making a place in a list that is not empty removes a record. -/
theorem makePlace_length_lt {s : State} (h : s.rpf.records ≠ []) :
    (makePlace s).rpf.records.length < s.rpf.records.length := by
  have hcounted : ∀ t : State,
      (raise .rtlPressure { t with rpf.counters.evictions := bump t.rpf.counters.evictions }).rpf.records =
        t.rpf.records := by
    intro t; rw [raise_frame]
  have hclosed : ∀ r, (closeRecord r true s).rpf.records =
      s.rpf.records.map (fun q => if q.isOf r.station r.sequence then q.settle else q) := by
    intro r; unfold closeRecord; rw [offerTelegram_frame]; rfl
  unfold makePlace
  dsimp only
  split
  · rename_i r hr
    rw [hcounted]
    exact dropRecord_length_lt (List.mem_of_find?_eq_some hr) (isOf_self r)
  · split
    · exact absurd ‹_› h
    · rename_i r rest hr
      rw [hcounted]
      have hmem : r.settle ∈ (closeRecord r true s).rpf.records := by
        rw [hclosed, hr, List.map_cons, if_pos (isOf_self r)]
        exact List.mem_cons_self
      calc _ < (closeRecord r true s).rpf.records.length := dropRecord_length_lt hmem (isOf_self r)
        _ = s.rpf.records.length := by rw [hclosed, List.length_map]

/-- R51: a full list makes a place first. -/
def makeRoom (s : State) : State := if 48 ≤ s.rpf.records.length then makePlace s else s

theorem makeRoom_shrinks (s : State) : Shrinks s (makeRoom s) := by
  unfold makeRoom
  split
  · exact makePlace_shrinks s
  · exact .refl s

theorem makeRoom_stab (s : State) : (makeRoom s).stab = s.stab := by
  unfold makeRoom
  split
  · obtain ⟨_, _, _, _, _, h⟩ := makePlace_frame s
    rw [h]
  · rfl

theorem makeRoom_length_lt {s : State} (h : s.rpf.records.length ≤ 48) :
    (makeRoom s).rpf.records.length < 48 := by
  unfold makeRoom
  split
  · have hne : s.rpf.records ≠ [] := by
      rintro hnil
      have hfull : 48 ≤ s.rpf.records.length := ‹_›
      rw [hnil] at hfull
      exact absurd hfull (by decide)
    exact (makePlace_length_lt hne).trans_le h
  · omega

/-- R51: acceptance makes room, adds the record, produces the item of a SETTLED record, and notifies the store of
a copy with an entry. -/
theorem accept_eq (c : Copy) (check : Word16) (e : Option Entry) (s : State) :
    accept c check e s =
      (let room := makeRoom { s with rpf.counters.accepted := bump s.rpf.counters.accepted }
      let added := produceNow (newRecord c check e s.stab) (addRecord (newRecord c check e s.stab) room)
      if e.isSome then notifyStore (firstCopyOf c) added else added) := by
  have hstab := makeRoom_stab { s with rpf.counters.accepted := bump s.rpf.counters.accepted }
  unfold makeRoom at hstab ⊢
  unfold accept
  dsimp only at hstab ⊢
  rw [hstab]

theorem produceNow_shrinks (r : Record) (s : State) : Shrinks s (produceNow r s) := by
  unfold produceNow
  split
  · exact .refl s
  · exact offerTelegram_shrinks _ _

/-- R54: only a copy of a station with an entry in GATHER begins a GATHERING record. -/
theorem newRecord_gathering {c : Copy} {check : Word16} {e : Option Entry} {t : StationTable}
    (h : (newRecord c check e t).isGathering = true) : ∃ f, e = some f ∧ f.settings.mode = .gather := by
  cases e with
  | none => cases h
  | some f =>
    refine ⟨f, rfl, ?_⟩
    cases hm : f.settings.mode <;>
      simp [newRecord, Record.isGathering, creationState, hm] at h ⊢

theorem accept_tableInv {c : Copy} {check : Word16} {e : Option Entry} {s : State} (hs : TableInv s)
    (hnew : findRecord s.rpf.records c.station c.sequence = none)
    (hpinned : ∀ f, e = some f → f.settings.mode = .gather → s.stab.Pinned c.station) :
    TableInv (accept c check e s) := by
  have hroom : Shrinks s (makeRoom { s with rpf.counters.accepted := bump s.rpf.counters.accepted }) :=
    (makeRoom_shrinks _).from_eq rfl rfl rfl
  have hadded : TableInv (addRecord (newRecord c check e s.stab)
      (makeRoom { s with rpf.counters.accepted := bump s.rpf.counters.accepted })) := by
    refine addRecord_tableInv (hs.shrink hroom) (makeRoom_length_lt hs.records) ?_ ?_
    · intro hmem
      obtain ⟨r, hr, hk⟩ := List.mem_map.mp (hroom.telegrams.subset hmem)
      exact findRecord_none.mp hnew r hr (Prod.mk.inj hk)
    · intro hg
      obtain ⟨f, hf, hm⟩ := newRecord_gathering hg
      rw [makeRoom_stab]
      exact hpinned f hf hm
  have hproduced := hadded.shrink (produceNow_shrinks (newRecord c check e s.stab) _)
  rw [accept_eq]
  dsimp only
  split
  · exact hproduced.shrink (notifyStore_shrinks _ _)
  · exact hproduced

theorem takeDuplicate_tableInv {c : Copy} {e : Option (Fin 64 × Entry)} {s : State} (hs : TableInv s)
    (he : ∀ i f, e = some (i, f) → s.stab.places[i] = some f) : TableInv (takeDuplicate c e s) := by
  unfold takeDuplicate
  dsimp only
  refine TableInv.shrink ?_ (mapRecord_shrinks (merge_calm c) _ _ _)
  have hcounted : TableInv { s with rpf.counters.duplicates := bump s.rpf.counters.duplicates } :=
    hs.shrink (.of_eq rfl rfl rfl)
  cases e with
  | none => exact hcounted
  | some p => exact hcounted.shrink (setPlace_shrinks (f := p.2.heardAgain) (he p.1 p.2 rfl) rfl)

theorem takeConflict_tableInv {c : Copy} {s : State} (hs : TableInv s) : TableInv (takeConflict c s) :=
  hs.shrink ((mapRecord_shrinks conflicted_calm _ _ _).from_eq rfl rfl rfl)

/-- R7, R11: an entry in GATHER is PINNED. -/
theorem pinned_of_not_immediate {s : State} (hs : TableInv s) {i : Fin 64} {e : Entry}
    (he : s.stab.places[i] = some e) (hm : e.settings.mode ≠ .immediate) : s.stab.Pinned e.station := by
  refine ⟨i, e, he, rfl, ?_⟩
  cases ho : e.origin with
  | pinned => rfl
  | learned => exact absurd (hs.learned i e he ho).1 hm

theorem takeJudged_tableInv {c : Copy} {check : Word16} {i : Fin 64} {e : Entry} {s : State} (hs : TableInv s)
    (he : s.stab.places[i] = some e) (hid : e.station = c.station)
    (hnew : findRecord s.rpf.records c.station c.sequence = none) : TableInv (takeJudged c check i e s) := by
  unfold takeJudged
  split
  · have hheard : Shrinks s (setPlace i (some (e.heardNew c.sequence c.endTime)) s) := setPlace_shrinks he rfl
    refine accept_tableInv (hs.shrink hheard) hnew fun f hf hm => hheard.pinned ?_
    obtain rfl := Option.some.inj hf
    exact hid ▸ pinned_of_not_immediate hs he (by rw [show e.settings.mode = .gather from hm]; decide)
  all_goals
    have hheard : Shrinks s (setPlace i (some e.heardOld) s) := setPlace_shrinks he rfl
    exact hs.shrink (hheard.trans (.of_eq rfl rfl rfl))

theorem afterLookup_tableInv {c : Copy} {e : Option (Fin 64 × Entry)} {s : State} (hs : TableInv s)
    (he : ∀ i f, e = some (i, f) → s.stab.places[i] = some f ∧ f.station = c.station) :
    TableInv (afterLookup c e s) := by
  unfold afterLookup
  dsimp only
  split
  · split
    · exact takeDuplicate_tableInv hs (fun i f h => (he i f h).1)
    · exact takeConflict_tableInv hs
  · split
    · obtain ⟨hf, hid⟩ := he _ _ rfl
      exact takeJudged_tableInv hs hf hid ‹_›
    · exact accept_tableInv hs ‹_› (fun f h => by cases h)

theorem handleCopy_tableInv {c : Copy} {s : State} (hs : TableInv s) : TableInv (handleCopy c s) := by
  have hfound : ∀ {t : State} {e : Option (Fin 64 × Entry)}, e = none ∨ e = lookup t.stab c.station →
      ∀ i f, e = some (i, f) → t.stab.places[i] = some f ∧ f.station = c.station := by
    rintro t e (rfl | rfl) i f h
    · cases h
    · exact lookup_some h
  unfold handleCopy
  split
  · rename_i i e hl
    split
    · exact hs.shrink (.of_eq rfl rfl rfl)
    all_goals exact afterLookup_tableInv hs (hfound (.inr hl.symm))
  · rename_i hl
    split
    · exact hs.shrink (.of_eq rfl rfl rfl)
    · exact afterLookup_tableInv hs (hfound (.inl rfl))
    · refine afterLookup_tableInv (learn_tableInv hs hl) (hfound ?_)
      split
      · exact .inr rfl
      · exact .inl rfl

theorem handOver_tableInv {c : Copy} {s : State} (hs : TableInv s) : TableInv (handOver c s) :=
  handleCopy_tableInv (hs.shrink (.of_eq (by simp) (by simp) (by simp)))

/-! ### Cells and edges -/

theorem tableInv_ite {p : Prop} [Decidable p] {s t : State} (hs : TableInv s) (ht : TableInv t) :
    TableInv (if p then s else t) := by
  split <;> assumption

theorem bodyCell_tableInv {ch : Channel} {t : Tracking} {bytes : List Byte} {cur : Byte} {nbits : Nat}
    {reg : Word16} {bit : Bool} {s : State} (hs : TableInv s) :
    TableInv (bodyCell ch t bytes cur nbits reg bit s) := by
  have hend : ∀ bs r, TableInv (endTelegram ch t bs r s) := by
    intro bs r
    unfold endTelegram
    dsimp only
    split
    · exact hs.shrink (bodyError_shrinks _ _ _)
    · split
      · exact hs.shrink (bodyError_shrinks _ _ _)
      · exact handOver_tableInv hs
  have hset : ∀ st, TableInv (setRxState ch st s) := fun st => hs.shrink (setRxState_shrinks _ _ _)
  exact tableInv_ite (hset _) (tableInv_ite (hs.shrink (bodyError_shrinks _ _ _)) (tableInv_ite (hend _ _) (hset _)))

theorem decodedCell_tableInv {ch : Channel} {bit soft : Bool} {time : Nat} {s : State} (hs : TableInv s) :
    TableInv (decodedCell ch bit soft time s) := by
  have hset : ∀ st, TableInv (setRxState ch st s) := fun st => hs.shrink (setRxState_shrinks _ _ _)
  unfold decodedCell
  dsimp only
  split
  case h_1 => exact hs
  case h_2 => exact tableInv_ite (hs.shrink (.of_eq (by simp) (by simp) (by simp))) (hset _)
  case h_3 => exact tableInv_ite (hs.shrink (losePreamble_shrinks _ _)) (tableInv_ite (hset _) (hset _))
  case h_4 => exact tableInv_ite (hset _) (tableInv_ite (hs.shrink (missSync_shrinks _ _)) (hset _))
  case h_5 => exact bodyCell_tableInv hs

theorem applyVerdict_tableInv {ch : Channel} {v : CellVerdict} {s : State} (hs : TableInv s) :
    TableInv (applyVerdict ch v s) := by
  cases v with
  | waiting p => exact hs.shrink (setProgress_shrinks _ _ _)
  | cell bit soft ref => exact decodedCell_tableInv hs
  | violation => exact hs.shrink (violation_shrinks _ _)

theorem lineQuiet_tableInv {ch : Channel} {time : Nat} {s : State} (hs : TableInv s) :
    TableInv (lineQuiet ch time s) := by
  have honce : ∀ {t : State}, TableInv t → TableInv (quietOnce ch time t) := by
    intro t ht
    unfold quietOnce
    split
    · exact ht
    · exact applyVerdict_tableInv ht
  exact honce (honce hs)

theorem lineEdge_tableInv {ch : Channel} {rising : Bool} {time : Nat} {s : State} (hs : TableInv s) :
    TableInv (lineEdge ch rising time s) := by
  have hquiet : TableInv (lineQuiet ch (time - 1) s) := lineQuiet_tableInv hs
  have hanchor : TableInv (anchorEdge ch rising time (lineQuiet ch (time - 1) s)) := by
    unfold anchorEdge
    dsimp only
    split
    · split
      · exact hquiet
      · exact decodedCell_tableInv hquiet
    · exact hquiet.shrink (setRxState_shrinks _ _ _)
    · split
      · exact hquiet.shrink (setRxState_shrinks _ _ _)
      · exact hquiet
  unfold lineEdge
  dsimp only
  split
  case h_1 => exact hquiet
  case h_2 => exact hanchor
  all_goals
    split
    · exact hquiet
    · exact applyVerdict_tableInv hquiet

end Sys2Proof.Machine

namespace Sys2Proof.Machine

/-! ### Requests -/

theorem setParam_shrinks (p : Param) (v : Nat) (s : State) : Shrinks s (setParam p v s) := by
  cases p
  case rxEnableA => exact setEnable_shrinks _ _ _
  case rxEnableB => exact setEnable_shrinks _ _ _
  case sessionIdleS =>
    obtain ⟨_, h⟩ := restartIdle_frame { s with trk.sessionIdleS := v }
    unfold setParam
    rw [h]; exact .of_eq rfl rfl rfl
  case level c =>
    unfold setParam setLevel
    dsimp only
    split
    · exact .of_eq rfl rfl rfl
    · split
      · rw [joinNotice_frame]; exact .of_eq rfl rfl rfl
      · exact .of_eq rfl rfl rfl
  all_goals exact .of_eq rfl rfl rfl

/-- R73: a downlink of a station with a PINNED entry fills a place. -/
theorem queueInto_tableInv {i : Fin 16} {j : Fin 64} {e : Entry} {hostTag : Byte} {attempts lifetimeS : Nat}
    {payload : List Byte} {s : State} (hs : TableInv s) (he : s.stab.places[j] = some e)
    (hreply : e.settings.replyEnabled = true) :
    TableInv (queueInto i j e hostTag attempts lifetimeS payload s) := by
  have hpinned : s.stab.Pinned e.station := by
    refine ⟨j, e, he, rfl, ?_⟩
    cases ho : e.origin with
    | pinned => rfl
    | learned => rw [(hs.learned j e he ho).2] at hreply; cases hreply
  have hentry : Shrinks s (setPlace j (some { e with nextDownlinkSeq := e.nextDownlinkSeq + 1 }) s) :=
    setPlace_shrinks he rfl
  obtain ⟨hsound, hrecords, htelegrams, hclaims⟩ := tableInv_iff.mp (hs.shrink hentry)
  refine tableInv_iff.mpr ⟨hsound, hrecords, htelegrams, ?_⟩
  rintro id (hrecord | ⟨k, hk⟩)
  · exact hclaims id (.inl hrecord)
  · unfold slotState queueInto at hk
    dsimp only at hk
    rw [vector_set_fin] at hk
    split at hk
    · obtain rfl := Option.some.inj hk
      exact hentry.pinned hpinned
    · exact hclaims id (.inr ⟨k, hk⟩)

/-- R17: PUT-STATION is refused, or the settings that it brings are put into the table. -/
theorem reqPutStation_cases (args : List Byte) (s : State) :
    (∃ st, reqPutStation args s = refuse st s) ∨
      ∃ id settings, reqPutStation args s = putStation id settings s := by
  unfold reqPutStation
  split
  · split
    · dsimp only
      split
      · exact .inr ⟨_, _, rfl⟩
      · exact .inl ⟨_, rfl⟩
    all_goals exact .inl ⟨_, rfl⟩
  · exact .inl ⟨_, rfl⟩

theorem reqDropStation_tableInv (args : List Byte) {s : State} (hs : TableInv s) :
    TableInv (reqDropStation args s).2 := by
  unfold reqDropStation
  split
  · dsimp only
    split
    · exact hs
    · split
      · exact hs
      · rename_i hl
        split
        · exact hs
        · rename_i hsend
          rw [done_snd]
          exact dropStation_tableInv hs hl (Bool.eq_false_iff.mpr hsend)
  · exact hs

theorem queueDownlink_tableInv {id : StationId} {hostTag : Byte} {attempts lifetimeS : Nat} {payload : List Byte}
    {s : State} (hs : TableInv s) : TableInv (queueDownlink id hostTag attempts lifetimeS payload s).2 := by
  unfold queueDownlink
  split
  · exact hs
  · rename_i hl
    split
    · exact hs
    · split
      · exact hs
      · split
        · exact hs
        · exact queueInto_tableInv hs (lookup_some hl).1 (by simpa using ‹¬ (!_) = true›)

theorem reqQueueDownlink_tableInv (args : List Byte) {s : State} (hs : TableInv s) :
    TableInv (reqQueueDownlink args s).2 := by
  unfold reqQueueDownlink
  split
  · dsimp only
    split
    · exact hs
    · split
      · exact queueDownlink_tableInv hs
      · exact hs
  · exact hs

theorem reqOpenSession_shrinks (args : List Byte) (s : State) : Shrinks s (reqOpenSession args s).2 := by
  unfold reqOpenSession
  split
  · split
    · exact .refl s
    · exact openSession_shrinks _ _
  · exact .refl s

theorem reqSetParameter_shrinks (args : List Byte) (s : State) : Shrinks s (reqSetParameter args s).2 := by
  unfold reqSetParameter
  split
  · exact .refl s
  · split
    · exact .refl s
    · split
      · exact .refl s
      · split
        · exact .refl s
        · exact setParam_shrinks _ _ _

theorem reqCancelDownlink_shrinks (args : List Byte) (s : State) : Shrinks s (reqCancelDownlink args s).2 := by
  have hcancel : ∀ i, Shrinks s (cancelSlot i s).2 := by
    intro i
    unfold cancelSlot
    split
    case h_1 | h_5 | h_6 => exact .refl s
    all_goals exact reachResult_shrinks _ _ _ _
  unfold reqCancelDownlink
  split
  · split
    · exact .refl s
    · exact .refl s
    · exact hcancel _
  · exact .refl s

theorem reqCarrierTest_shrinks (args : List Byte) (s : State) : Shrinks s (reqCarrierTest args s).2 := by
  have htest : ∀ ms, Shrinks s (carrierTest ms s).2 := by
    intro ms
    unfold carrierTest
    dsimp only
    split
    case h_3 | h_4 => exact .refl s
    all_goals exact .of_eq rfl rfl rfl
  unfold reqCarrierTest
  split
  · split
    · exact htest _
    · exact .refl s
  · exact .refl s

theorem endTest_shrinks (s : State) : Shrinks s (endTest s) := (arbiter_shrinks _).from_eq rfl rfl rfl

theorem reqCarrierStop_shrinks (args : List Byte) (s : State) : Shrinks s (reqCarrierStop args s).2 := by
  unfold reqCarrierStop
  split
  · split
    · exact endTest_shrinks s
    all_goals exact .refl s
  · exact .refl s

theorem reqCloseSession_shrinks (args : List Byte) (s : State) : Shrinks s (reqCloseSession args s).2 := by
  unfold reqCloseSession
  split
  · exact .of_eq rfl rfl rfl
  · exact .refl s

theorem reqWarmRestart_shrinks (args : List Byte) (s : State) : Shrinks s (reqWarmRestart args s).2 := by
  unfold reqWarmRestart
  split
  · exact .of_eq rfl rfl rfl
  · exact .refl s

theorem reqClearCause_shrinks (args : List Byte) (s : State) : Shrinks s (reqClearCause args s).2 := by
  unfold reqClearCause
  split
  · split
    · exact .refl s
    · exact .of_eq rfl rfl rfl
  · exact .refl s

theorem reqClearCounters_shrinks (args : List Byte) (s : State) : Shrinks s (reqClearCounters args s).2 := by
  unfold reqClearCounters
  split
  · split
    · exact .refl s
    · rename_i g _
      cases g <;> exact .of_eq rfl rfl rfl
  · exact .refl s

/-! The requests that only read. -/

theorem reqGetStatus_snd (args : List Byte) (s : State) : (reqGetStatus args s).2 = s := by
  unfold reqGetStatus; split <;> rfl

theorem reqGetParameter_snd (args : List Byte) (s : State) : (reqGetParameter args s).2 = s := by
  unfold reqGetParameter
  split
  · split <;> rfl
  · rfl

theorem reqGetStation_snd (args : List Byte) (s : State) : (reqGetStation args s).2 = s := by
  unfold reqGetStation
  split
  · dsimp only
    split
    · rfl
    · split <;> rfl
  · rfl

theorem reqListStations_snd (args : List Byte) (s : State) : (reqListStations args s).2 = s := by
  unfold reqListStations
  split
  · split <;> rfl
  · rfl

theorem reqGetDownlink_snd (args : List Byte) (s : State) : (reqGetDownlink args s).2 = s := by
  unfold reqGetDownlink
  split
  · split <;> rfl
  · rfl

theorem reqGetCauses_snd (args : List Byte) (s : State) : (reqGetCauses args s).2 = s := by
  unfold reqGetCauses; split <;> rfl

theorem reqGetCounters_snd (args : List Byte) (s : State) : (reqGetCounters args s).2 = s := by
  unfold reqGetCounters
  split
  · split <;> rfl
  · rfl

theorem tableInv_reply_ite {p : Prop} [Decidable p] {x y : Reply × State} (hx : TableInv x.2)
    (hy : TableInv y.2) : TableInv (if p then x else y).2 := by
  split <;> assumption

/-- R167: carrying out a request keeps the invariant. -/
theorem carryOut_tableInv (code : Byte) (args : List Byte) {s : State} (hs : TableInv s) :
    TableInv (carryOut code args s).2 := by
  have hput : TableInv (reqPutStation args s).2 := by
    rcases reqPutStation_cases args s with ⟨st, h⟩ | ⟨id, settings, h⟩
    · rw [h]; exact hs
    · rw [h]; exact putStation_tableInv hs
  have hstatus : TableInv (reqGetStatus args s).2 := by rw [reqGetStatus_snd]; exact hs
  have hget : TableInv (reqGetParameter args s).2 := by rw [reqGetParameter_snd]; exact hs
  have hstation : TableInv (reqGetStation args s).2 := by rw [reqGetStation_snd]; exact hs
  have hlist : TableInv (reqListStations args s).2 := by rw [reqListStations_snd]; exact hs
  have hdownlink : TableInv (reqGetDownlink args s).2 := by rw [reqGetDownlink_snd]; exact hs
  have hcauses : TableInv (reqGetCauses args s).2 := by rw [reqGetCauses_snd]; exact hs
  have hcounters : TableInv (reqGetCounters args s).2 := by rw [reqGetCounters_snd]; exact hs
  unfold carryOut
  exact tableInv_reply_ite (hs.shrink (reqOpenSession_shrinks _ _))
    (tableInv_reply_ite (hs.shrink (reqCloseSession_shrinks _ _)) (tableInv_reply_ite hstatus
    (tableInv_reply_ite (hs.shrink (reqWarmRestart_shrinks _ _))
    (tableInv_reply_ite (hs.shrink (reqSetParameter_shrinks _ _)) (tableInv_reply_ite hget
    (tableInv_reply_ite hput (tableInv_reply_ite (reqDropStation_tableInv _ hs) (tableInv_reply_ite hstation
    (tableInv_reply_ite hlist (tableInv_reply_ite (reqQueueDownlink_tableInv _ hs)
    (tableInv_reply_ite (hs.shrink (reqCancelDownlink_shrinks _ _)) (tableInv_reply_ite hdownlink
    (tableInv_reply_ite hcauses (tableInv_reply_ite (hs.shrink (reqClearCause_shrinks _ _))
    (tableInv_reply_ite hcounters (tableInv_reply_ite (hs.shrink (reqClearCounters_shrinks _ _))
    (tableInv_reply_ite (hs.shrink (reqCarrierTest_shrinks _ _))
      (hs.shrink (reqCarrierStop_shrinks _ _)))))))))))))))))))

/-! ### The closing of an event -/

theorem judgeRequest_tableInv (code : Byte) (args : List Byte) {s : State} (hs : TableInv s) :
    TableInv (judgeRequest code args s).2 :=
  tableInv_reply_ite hs (tableInv_reply_ite hs (carryOut_tableInv code args hs))

theorem takeIn_tableInv (q : HeldRequest) {s : State} (hs : TableInv s) : TableInv (takeIn q s) := by
  have hrecorded : ∀ (r : Response) (b : Bool) {t : State}, TableInv t →
      TableInv (pushResponse r b (recordResponse r t)) := by
    intro r b t ht
    refine (tableInv_ite (p := r.tag = 0) ht ?_).shrink (.of_eq rfl rfl rfl)
    exact ht.shrink (.of_eq rfl rfl rfl)
  unfold takeIn
  split
  · exact hs.shrink (.of_eq rfl rfl rfl)
  · rename_i code args _
    split
    · exact hs.shrink (.of_eq rfl rfl rfl)
    · exact hrecorded _ _ (judgeRequest_tableInv code args hs)

theorem intakes_tableInv (n : Nat) {s : State} (hs : TableInv s) : TableInv (intakes n s) := by
  induction n generalizing s with
  | zero => exact hs
  | succ n ih =>
    unfold intakes
    split
    · exact hs
    · exact tableInv_ite (ih (takeIn_tableInv _ (hs.shrink (.of_eq rfl rfl rfl)))) hs

theorem settle_tableInv {s : State} (hs : TableInv s) : TableInv (settle s) :=
  intakes_tableInv _ ((intakes_tableInv _ hs).shrink (senderDecides_shrinks _))

theorem event_tableInv {f : State → State} (hf : ∀ s, TableInv s → TableInv (f s)) {s t : State}
    (hs : TableInv s) (h : event f s = .next t) : TableInv t := by
  obtain rfl := Host.Outcome.next.inj h
  exact tableInv_ite (settle_tableInv (hf s hs)) hs

theorem event_shrinks {f : State → State} (hf : ∀ s, Shrinks s (f s)) {s t : State} (hs : TableInv s)
    (h : event f s = .next t) : TableInv t :=
  event_tableInv (fun s hs => hs.shrink (hf s)) hs h

/-! ### Frames and commands -/

theorem receiveByte_tableInv {b : Byte} {s : State} (hs : TableInv s) : TableInv (receiveByte s b) :=
  settle_tableInv (hs.shrink (byteEffect_shrinks b s))

theorem frameArrives_tableInv (kind tag : Byte) (body : List Byte) (s : State) (hs : TableInv s) :
    TableInv (frameArrives kind tag body s) := by
  have hopening : TableInv (openingDelimiter s) := by
    unfold openingDelimiter
    split
    case h_1 | h_2 => exact hs.shrink (.of_eq rfl rfl rfl)
    all_goals exact receiveByte_tableInv hs
  exact hopening.shrink (receiveFrame_shrinks _ _ _ _)

theorem takeContent_tableInv (c : TrunkContent) (s : State) (hs : TableInv s) : TableInv (takeContent c s) := by
  cases c with
  | fault f => exact hs.shrink (discardContent_shrinks _ _)
  | bytes bs =>
    show TableInv (bs.foldl receiveByte s)
    induction bs generalizing s with
    | nil => exact hs
    | cons b bs ih => exact ih _ (receiveByte_tableInv hs)
  | edge rising time => exact hs.shrink (trunkEdge_shrinks _ _ _)
  | quiet time => exact hs.shrink (takeSamples_shrinks _ _ _)

theorem afterReset_tableInv (a b : Bool) (queue : List Instr) : TableInv (State.afterReset a b queue) := by
  have hfree : ∀ (i : Fin 64) (e : Entry), (State.afterReset a b queue).stab.places[i] ≠ some e := by
    intro i e h
    simp [State.afterReset, resetStationTable] at h
  refine tableInv_iff.mpr ⟨⟨fun i _ e _ h => absurd h (hfree i e), fun i e h => absurd h (hfree i e)⟩,
    Nat.zero_le _, List.nodup_nil, ?_⟩
  rintro id (⟨r, hr, -⟩ | ⟨i, hi⟩)
  · cases hr
  · simp [slotState, State.afterReset, resetStore, SlotState.claims] at hi

end Sys2Proof.Machine

namespace Sys2Proof.Machine

/-! ### Every command -/

theorem startRefclk_tableInv {s : State} (hs : TableInv s) : TableInv (startRefclk s) := by
  have hruns : TableInv { s with tbs.refclkRunning := true } := hs.shrink (.of_eq rfl rfl rfl)
  unfold startRefclk
  refine tableInv_ite ?_ (settle_tableInv hruns)
  split
  · exact afterReset_tableInv _ _ _
  · exact hruns

theorem execCellDecoded_tableInv (ch : Channel) (input : CellInput) {s t : State} (hs : TableInv s)
    (h : execCellDecoded ch input s = .next t) : TableInv t := by
  cases input with
  | decided bit soft time => exact event_tableInv (fun _ hs => decodedCell_tableInv hs) hs h
  | edge rising time => exact event_tableInv (fun _ hs => lineEdge_tableInv hs) hs h
  | quiet time => exact event_tableInv (fun _ hs => lineQuiet_tableInv hs) hs h
  | refclk running =>
    obtain rfl := Host.Outcome.next.inj h
    exact tableInv_ite (startRefclk_tableInv hs) (hs.shrink (.of_eq rfl rfl rfl))

theorem execFullResetEnd_tableInv (a b : Bool) {s t : State} (hs : TableInv s)
    (h : execFullResetEnd a b s = .next t) : TableInv t := by
  obtain rfl := Host.Outcome.next.inj h
  exact tableInv_ite (afterReset_tableInv _ _ _) (tableInv_ite (hs.shrink (.of_eq rfl rfl rfl)) hs)

theorem execCopy_tableInv (c : Copy) {s t : State} (hs : TableInv s) (h : execCopy c s = .next t) : TableInv t :=
  event_tableInv (fun _ hs => tableInv_ite hs
    (tableInv_ite (handOver_tableInv hs) (hs.shrink (bodyError_shrinks _ _ _)))) hs h

/-- The commands of the receivers that come to a loss or an error. -/
theorem receiverCommands_tableInv {s t : State} (hs : TableInv s) :
    (∀ ch, execPreambleLost ch s = .next t → TableInv t) ∧ (∀ ch, execSyncMissing ch s = .next t → TableInv t) ∧
      ∀ ch e, execReceiverError ch e s = .next t → TableInv t := by
  refine ⟨fun ch => event_shrinks (fun u => ?_) hs, fun ch => event_shrinks (fun u => ?_) hs,
    fun ch e => event_shrinks (fun u => ?_) hs⟩
  · split
    case h_4 | h_5 => exact .refl u
    all_goals exact losePreamble_shrinks _ _
  · split
    case h_4 | h_5 => exact .refl u
    all_goals exact missSync_shrinks _ _
  · split
    · exact bodyError_shrinks _ _ _
    · exact .refl u

theorem shrinks_ite {p : Prop} [Decidable p] {s t u : State} (ht : Shrinks s t) (hu : Shrinks s u) :
    Shrinks s (if p then t else u) := by
  split <;> assumption

/-- The deadlines of records and slots. -/
theorem deadlineCommands_tableInv {s t : State} (hs : TableInv s) :
    (∀ id q, execGatherDeadline id q s = .next t → TableInv t) ∧
      (∀ id q, execSettleDeadline id q s = .next t → TableInv t) ∧
      (∀ i, execWindowOpen i s = .next t → TableInv t) ∧ (∀ i, execWindowClose i s = .next t → TableInv t) ∧
      ∀ i, execLifetimeDeadline i s = .next t → TableInv t := by
  refine ⟨fun id q => event_shrinks (fun u => ?_) hs, fun id q => event_shrinks (fun u => ?_) hs,
    fun i => event_shrinks (fun u => ?_) hs, fun i => event_shrinks (fun u => ?_) hs,
    fun i => event_shrinks (fun u => ?_) hs⟩
  · split
    · exact .refl u
    · split
      · exact .refl u
      · exact shrinks_ite (closeRecord_shrinks _ _ _) (.refl u)
  · split
    · exact .refl u
    · refine shrinks_ite ?_ (.refl u)
      exact (shrinks_ite (closeRecord_shrinks _ _ _) (.refl u)).trans (dropRecord_shrinks _ _ _)
  · split
    · exact shrinks_ite (offerSlot_shrinks _ _) (.refl u)
    all_goals exact .refl u
  · split
    · rename_i d _ _ h
      exact shrinks_ite (missWindow_shrinks (by rw [h]; rfl)) (.refl u)
    all_goals exact .refl u
  · split
    case h_4 | h_5 | h_6 => exact .refl u
    all_goals exact shrinks_ite (reachResult_shrinks _ _ _ _) (.refl u)

/-- The ends of what the transmitter does. -/
theorem transmitterCommands_tableInv {s t : State} (hs : TableInv s) :
    (execTransmissionEnd s = .next t → TableInv t) ∧ (execTestEnd s = .next t → TableInv t) ∧
      (execStoppingEnd s = .next t → TableInv t) := by
  refine ⟨event_shrinks (fun u => ?_) hs, event_shrinks (fun u => ?_) hs, event_shrinks (fun u => ?_) hs⟩
  · split
    · refine shrinks_ite (.refl u) (Shrinks.trans ?_ (arbiter_shrinks _))
      exact (takeTransmissionEnd_shrinks _ _).from_eq rfl rfl rfl
    all_goals exact .refl u
  · split
    · exact shrinks_ite (endTest_shrinks u) (.refl u)
    all_goals exact .refl u
  · split
    · exact endTest_shrinks u
    all_goals exact .refl u

/-- The deadlines of the stream, the session and the alarm block. -/
theorem trunkDeadlines_tableInv {s t : State} (hs : TableInv s) :
    (execRetransmitTimerExpiry s = .next t → TableInv t) ∧ (execIdleDeadline s = .next t → TableInv t) ∧
      (execRenotifyDeadline s = .next t → TableInv t) ∧ (execPerSecondBoundary s = .next t → TableInv t) := by
  refine ⟨event_shrinks (fun u => ?_) hs, event_shrinks (fun u => ?_) hs, event_shrinks (fun u => ?_) hs,
    event_shrinks (fun u => ?_) hs⟩
  · split
    · exact shrinks_ite (timerExpires_shrinks u) (.refl u)
    · exact .refl u
  · split
    · exact shrinks_ite (idleTimeout_shrinks u) (.refl u)
    all_goals exact .refl u
  · refine shrinks_ite ?_ (.refl u)
    rw [joinAllNotices_frame]
    exact .of_eq rfl rfl rfl
  · exact shrinks_ite (.of_eq rfl rfl rfl) (.refl u)

theorem frameCommand_tableInv {kind tag : Byte} {body : List Byte} {s t : State} (hs : TableInv s)
    (h : event (frameArrives kind tag body) s = .next t) : TableInv t :=
  event_tableInv (frameArrives_tableInv kind tag body) hs h

/-- Every command keeps the invariant of the table, in any state. -/
theorem exec_tableInv (c : Instr) {s t : State} (hs : TableInv s) (h : exec c s = .next t) : TableInv t := by
  obtain ⟨hpreamble, hsync, herror⟩ := receiverCommands_tableInv (t := t) hs
  obtain ⟨hgather, hsettle, hopen, hclose, hlife⟩ := deadlineCommands_tableInv (t := t) hs
  obtain ⟨hsent, htest, hstop⟩ := transmitterCommands_tableInv (t := t) hs
  obtain ⟨htimer, hidle, hrenotify, hsecond⟩ := trunkDeadlines_tableInv (t := t) hs
  cases c
  case fullReset =>
    obtain rfl := Host.Outcome.next.inj h
    exact hs.shrink (.of_eq rfl rfl rfl)
  case fullResetEnd a b => exact execFullResetEnd_tableInv a b hs h
  case preambleLost ch => exact hpreamble ch h
  case syncMissing ch => exact hsync ch h
  case receiverError ch e => exact herror ch e h
  case copy c => exact execCopy_tableInv c hs h
  case cellDecoded ch input => exact execCellDecoded_tableInv ch input hs h
  case gatherDeadline id q => exact hgather id q h
  case settleDeadline id q => exact hsettle id q h
  case windowOpen i => exact hopen i h
  case windowClose i => exact hclose i h
  case lifetimeDeadline i => exact hlife i h
  case transmissionEnd => exact hsent h
  case testEnd => exact htest h
  case stoppingEnd => exact hstop h
  case retransmitTimerExpiry => exact htimer h
  case idleDeadline => exact hidle h
  case renotifyDeadline => exact hrenotify h
  case perSecondBoundary => exact hsecond h
  case partTimeAdvance =>
    exact event_shrinks (f := fun u => { u with tbs.partTime := u.tbs.partTime + 1 })
      (fun _ => .of_eq rfl rfl rfl) hs h
  case frameBoundary => exact event_shrinks frameEnds_shrinks hs h
  case lineError => exact event_shrinks takeLineError_shrinks hs h
  case discardedContent c => exact event_tableInv (takeContent_tableInv c) hs h
  all_goals exact frameCommand_tableInv hs h

theorem idleTick_shrinks (s : State) : Shrinks s (idleTick s) := by
  refine shrinks_ite ?_ (.refl s)
  unfold transmitTick
  split
  · exact shrinks_ite (.of_eq rfl rfl rfl) (.refl s)
  · exact .of_eq rfl rfl rfl
  all_goals exact .refl s

theorem idleTick_inReset (s : State) : (idleTick s).inReset = s.inReset := by
  unfold idleTick transmitTick
  split
  · split
    · split <;> rfl
    all_goals rfl
  · rfl

/-! ### The part held in full reset -/

/-- R196: while the part is held, only the two reset commands and the word that REFCLK stops or runs act. -/
theorem exec_held {c : Instr} {s : State} (hs : s.inReset = true) (hreset : c ≠ .fullReset)
    (hend : ∀ a b, c ≠ .fullResetEnd a b) (hclock : ∀ ch r, c ≠ .cellDecoded ch (.refclk r)) :
    exec c s = .next s := by
  cases c
  case fullReset => exact absurd rfl hreset
  case fullResetEnd a b => exact absurd rfl (hend a b)
  case cellDecoded ch input =>
    cases input
    case refclk r => exact absurd rfl (hclock ch r)
    all_goals apply event_held hs
  all_goals apply event_held hs

/-- R196, R197: a command to a part that is held leaves it held, or ends the reset. -/
theorem exec_held_cases (c : Instr) {s t : State} (hs : s.inReset = true) (h : exec c s = .next t) :
    t.inReset = true ∨ ∃ a b, t = State.afterReset a b s.pending := by
  by_cases hreset : c = .fullReset
  · subst c; obtain rfl := Host.Outcome.next.inj h; exact .inl rfl
  by_cases hend : ∃ a b, c = .fullResetEnd a b
  · obtain ⟨a, b, rfl⟩ := hend
    obtain rfl := Host.Outcome.next.inj h
    by_cases hr : s.tbs.refclkRunning
    · exact .inr ⟨a, b, if_pos hr⟩
    · rw [if_neg hr, if_pos hs]; exact .inl hs
  by_cases hclock : ∃ ch r, c = .cellDecoded ch (.refclk r)
  · obtain ⟨ch, r, rfl⟩ := hclock
    obtain rfl := Host.Outcome.next.inj h
    cases r with
    | false => exact .inl hs
    | true =>
      rw [if_pos rfl, startRefclk_held hs]
      split
      · exact .inr ⟨_, _, rfl⟩
      · exact .inl hs
  · push Not at hend hclock
    rw [exec_held hs hreset hend hclock] at h
    exact .inl (Host.Outcome.next.inj h ▸ hs)

/-- Settles O59: every command and every tick keeps the invariant in any state, and a part that is held leaves the
hold with an empty table. -/
theorem tableStaysConsistent : Obligations.TableStaysConsistent := by
  intro s t hs h ht
  unfold step at h
  split at h
  · rename_i c rest _
    cases hr : s.inReset with
    | false =>
      have hrest : TableInv { s with pending := rest } := (hs hr).shrink (.of_eq rfl rfl rfl)
      exact exec_tableInv c hrest h
    | true =>
      rcases exec_held_cases c (s := { s with pending := rest }) hr h with hheld | ⟨a, b, rfl⟩
      · rw [hheld] at ht; cases ht
      · exact afterReset_tableInv a b rest
  · obtain rfl := Host.Outcome.next.inj h
    exact (hs (idleTick_inReset s ▸ ht)).shrink (idleTick_shrinks s)

end Sys2Proof.Machine

namespace Sys2Proof.Machine

/-! ## Copies handed over -/

/-- A state that differs from a settled one in no trunk, stream or engine field is left as it is by the closing of
an event. -/
theorem settle_of_settled {s t : State} (hs : Settled s) (htrk : t.trk = s.trk) (hmre : t.mre = s.mre)
    (hdst : t.dst = s.dst) : settle t = t := by
  obtain ⟨hno, hline⟩ := hs
  have hno' : NoIntake t := by unfold NoIntake; rw [htrk, hmre]; exact hno
  have hdecides : senderDecides t = t := by
    cases hl : t.trk.line with
    | some f => exact senderDecides_of_busy hl
    | none =>
      rw [senderDecides_of_idle hl]
      have hnothing : NothingToSend s := hline.resolve_left (fun h => h (htrk ▸ hl))
      refine takeFrame_of_nothing ?_
      unfold NothingToSend lowestNotice inNotices streamEligible at hnothing ⊢
      rw [htrk, hdst]
      exact hnothing
  unfold settle
  rw [intakeAll_of_noIntake hno', hdecides, intakeAll_of_noIntake hno']

/-- A copy handed over changes its receiver alone. -/
theorem handed_frame (c : Copy) (s : State) : ∃ fra frb, handed c s = { s with fra := fra, frb := frb } := by
  unfold handed
  cases c.channel <;> exact ⟨_, _, rfl⟩

@[simp] theorem handed_tbs (c : Copy) (s : State) : (handed c s).tbs = s.tbs := by simp [handed]
@[simp] theorem handed_profile (c : Copy) (s : State) : (handed c s).profile = s.profile := by simp [handed]
@[simp] theorem handed_stab (c : Copy) (s : State) : (handed c s).stab = s.stab := by simp [handed]
@[simp] theorem handed_rpf (c : Copy) (s : State) : (handed c s).rpf = s.rpf := by simp [handed]
@[simp] theorem handed_dls (c : Copy) (s : State) : (handed c s).dls = s.dls := by simp [handed]
@[simp] theorem handed_dst (c : Copy) (s : State) : (handed c s).dst = s.dst := by simp [handed]
@[simp] theorem handed_trk (c : Copy) (s : State) : (handed c s).trk = s.trk := by simp [handed]
@[simp] theorem handed_mre (c : Copy) (s : State) : (handed c s).mre = s.mre := by simp [handed]

/-- R36: a COPY that its receiver hands over is handled whole, and the event is closed. -/
theorem exec_copy {c : Copy} {s : State} (h : HandsOver c s) :
    exec (.copy c) s = .next (settle (handleCopy c (handed c s))) := by
  show execCopy c s = _
  unfold execCopy
  rw [event_running h.running, h.enabled, h.format]
  simp only [Bool.not_true, Bool.false_eq_true, if_false, if_true]
  unfold handOver
  rw [toHunt_countRx]
  rfl

/-- A copy whose handling reaches no trunk, stream or engine field, at a settled part: nothing else happens. -/
theorem exec_copy_settled {c : Copy} {s t : State} (h : HandsOver c s) (hs : Settled s)
    (ht : handleCopy c (handed c s) = t) (htrk : t.trk = (handed c s).trk) (hmre : t.mre = (handed c s).mre)
    (hdst : t.dst = (handed c s).dst) : exec (.copy c) s = .next t := by
  rw [exec_copy h, ht, settle_of_settled hs (htrk.trans (handed_trk c s)) (hmre.trans (handed_mre c s))
    (hdst.trans (handed_dst c s))]

/-- R5: an entry of a known station in BLOCK drops the copy. -/
theorem handleCopy_block {c : Copy} {s : State} {i : Fin 64} {e : Entry} (hl : lookup s.stab c.station = some (i, e))
    (hm : e.settings.mode = .block) :
    handleCopy c s = { s with rpf.counters.blocked := bump s.rpf.counters.blocked } := by
  simp only [handleCopy, hl, hm]

/-- R5: an entry that is not in BLOCK lets the copy through. -/
theorem handleCopy_entry {c : Copy} {s : State} {i : Fin 64} {e : Entry} (hl : lookup s.stab c.station = some (i, e))
    (hm : e.settings.mode ≠ .block) : handleCopy c s = afterLookup c (some (i, e)) s := by
  cases hmode : e.settings.mode with
  | block => exact absurd hmode hm
  | immediate => simp only [handleCopy, hl, hmode]
  | gather => simp only [handleCopy, hl, hmode]

theorem handleCopy_drop {c : Copy} {s : State} (hl : lookup s.stab c.station = none) (hp : s.stab.policy = .drop) :
    handleCopy c s = { s with rpf.counters.unknownDropped := bump s.rpf.counters.unknownDropped } := by
  simp only [handleCopy, hl, hp]

theorem handleCopy_forward {c : Copy} {s : State} (hl : lookup s.stab c.station = none)
    (hp : s.stab.policy = .forward) : handleCopy c s = afterLookup c none s := by
  simp only [handleCopy, hl, hp]

theorem handleCopy_learn {c : Copy} {s : State} (hl : lookup s.stab c.station = none)
    (hp : s.stab.policy = .learn) :
    handleCopy c s =
      afterLookup c (if (learn c.station s).2 then lookup (learn c.station s).1.stab c.station else none)
        (learn c.station s).1 := by
  simp only [handleCopy, hl, hp]

/-- R50: a copy with an entry that matches no record is judged. -/
theorem afterLookup_judged {c : Copy} {s : State} {i : Fin 64} {e : Entry}
    (hnew : findRecord s.rpf.records c.station c.sequence = none) :
    afterLookup c (some (i, e)) s =
      takeJudged c (normalisedCheck c s.profile.checkPoly s.profile.checkInit) i e s := by
  simp only [afterLookup, hnew]

theorem afterLookup_forwarded {c : Copy} {s : State}
    (hnew : findRecord s.rpf.records c.station c.sequence = none) :
    afterLookup c none s = accept c (normalisedCheck c s.profile.checkPoly s.profile.checkInit) none s := by
  simp only [afterLookup, hnew]

theorem takeJudged_late {c : Copy} {check : Word16} {i : Fin 64} {e : Entry} {s : State}
    (h : judge e.lastSequence c.sequence = .lateRepeat) :
    takeJudged c check i e s =
      { s with
        stab.places := s.stab.places.set i (some { e with stale := bump e.stale })
        rpf.counters.lateRepeats := bump s.rpf.counters.lateRepeats } := by
  simp only [takeJudged, h]; rfl

theorem takeJudged_stale {c : Copy} {check : Word16} {i : Fin 64} {e : Entry} {s : State}
    (h : judge e.lastSequence c.sequence = .stale) :
    takeJudged c check i e s =
      { s with
        stab.places := s.stab.places.set i (some { e with stale := bump e.stale })
        rpf.counters.stale := bump s.rpf.counters.stale } := by
  simp only [takeJudged, h]; rfl

/-- R14: the last sequence again. -/
theorem judge_same (p : Byte) : judge (some p) p = .lateRepeat := by simp [judge]

/-- R14: 128 to 255 ahead of the last sequence. -/
theorem judge_stale {p q : Byte} (h : 128 ≤ (q - p).toNat) : judge (some p) q = .stale := by
  unfold judge
  dsimp only
  rw [if_neg (by omega), if_neg (by omega)]

/-- R14: no last sequence, or 1 to 127 ahead of it. -/
theorem judge_new {last : Option Byte} {q : Byte}
    (h : last = none ∨ ∃ p, last = some p ∧ 1 ≤ (q - p).toNat ∧ (q - p).toNat ≤ 127) : judge last q = .new := by
  rcases h with rfl | ⟨p, rfl, hlow, hhigh⟩
  · rfl
  · unfold judge
    dsimp only
    rw [if_neg (by omega), if_pos hhigh]

/-- Settles O14: the branch of the filter is fixed by the hypotheses, and a settled part sends nothing after it. -/
theorem droppedCopies : Obligations.DroppedCopies := by
  intro c s h hs
  refine ⟨fun i e hl hm => ?_, fun hl hp => ?_, fun i e p hl hm hlast hnew => ?_⟩
  · refine exec_copy_settled h hs ?_ rfl rfl rfl
    rw [handleCopy_block (by rwa [handed_stab]) hm]
    simp only [handed_rpf]
  · refine exec_copy_settled h hs ?_ rfl rfl rfl
    rw [handleCopy_drop (by rwa [handed_stab]) (by rwa [handed_stab])]
    simp only [handed_rpf]
  · have hjudged : handleCopy c (handed c s) = takeJudged c
        (normalisedCheck c (handed c s).profile.checkPoly (handed c s).profile.checkInit) i e (handed c s) := by
      rw [handleCopy_entry (by rwa [handed_stab]) hm,
        afterLookup_judged (by rw [handed_rpf]; exact findRecord_none.mpr hnew)]
    refine ⟨fun hseq => ?_, fun hfar => ?_⟩
    · refine exec_copy_settled h hs ?_ rfl rfl rfl
      rw [hjudged, takeJudged_late (by rw [hlast, hseq, judge_same])]
      simp only [handed_rpf, handed_stab]
    · refine exec_copy_settled h hs ?_ rfl rfl rfl
      rw [hjudged, takeJudged_stale (by rw [hlast, judge_stale hfar])]
      simp only [handed_rpf, handed_stab]

/-! ### Record match -/

theorem afterLookup_duplicate {c : Copy} {s : State} {e : Option (Fin 64 × Entry)} {r : Record}
    (hr : findRecord s.rpf.records c.station c.sequence = some r)
    (hcheck : r.check = normalisedCheck c s.profile.checkPoly s.profile.checkInit) :
    afterLookup c e s = takeDuplicate c e s := by
  simp only [afterLookup, hr, hcheck, if_true]

theorem afterLookup_conflict {c : Copy} {s : State} {e : Option (Fin 64 × Entry)} {r : Record}
    (hr : findRecord s.rpf.records c.station c.sequence = some r)
    (hcheck : r.check ≠ normalisedCheck c s.profile.checkPoly s.profile.checkInit) :
    afterLookup c e s = takeConflict c s := by
  simp only [afterLookup, hr, hcheck, if_false]

/-- R48: what a duplicate changes: the count of its entry, its record, and the filter's count. -/
theorem takeDuplicate_eq (c : Copy) (e : Option (Fin 64 × Entry)) (s : State) :
    takeDuplicate c e s =
      { s with
        stab.places := e.elim s.stab.places fun p => s.stab.places.set p.1 (some p.2.heardAgain)
        rpf.records := s.rpf.records.map
          (fun r => if r.isOf c.station c.sequence then r.merge c else r)
        rpf.counters.duplicates := bump s.rpf.counters.duplicates } := by
  cases e <;> rfl

/-- R48: the channels seen after one more channel. -/
theorem widen_eq (x : ChannelsSeen) (ch : Channel) :
    x.widen ch = if x = Channel.seen ch then Channel.seen ch else .ab := by
  cases x <;> cases ch <;> rfl

/-- R48: a duplicate counts into a GATHERING record alone. -/
theorem merge_eq (r : Record) (c : Copy) :
    r.merge c =
      if r.isGathering then
        { r with copies := bumpByte r.copies, channels := r.channels.widen c.channel
                 bestMargin := max r.bestMargin c.margin.val }
      else r := by
  unfold Record.merge Record.isGathering
  split <;> rfl

/-- The records after a change of the record of one telegram, member by member. -/
theorem mapRecord_get {id : StationId} {q : Byte} {f : Record → Record} {rs : List Record} {n : Nat} {x y : Record}
    (hx : rs[n]? = some x) (hy : (rs.map (fun r => if r.isOf id q then f r else r))[n]? = some y) :
    ((x.station = id ∧ x.sequence = q) → y = f x) ∧ (¬ (x.station = id ∧ x.sequence = q) → y = x) := by
  rw [List.getElem?_map, hx, Option.map_some] at hy
  obtain rfl := Option.some.inj hy
  constructor
  · intro h; rw [if_pos (by simpa [Record.isOf] using h)]
  · intro h; rw [if_neg (by simpa [Record.isOf] using h)]

/-- Settles O15: lookup lets the copy through with its entry or as a forwarded copy, and the checks decide. -/
theorem recordMatch : Obligations.RecordMatch := by
  intro c s r h hs hblock hforward hr
  obtain ⟨fra, frb, hh⟩ := handed_frame c s
  have hhandle : handleCopy c (handed c s) = afterLookup c (lookup s.stab c.station) (handed c s) := by
    cases hl : lookup s.stab c.station with
    | some p => exact handleCopy_entry (by rw [handed_stab, hl]) (hblock p.1 p.2 hl)
    | none => exact handleCopy_forward (by rw [handed_stab, hl]) (by rw [handed_stab, hforward hl])
  have hr' : findRecord (handed c s).rpf.records c.station c.sequence = some r := by rw [handed_rpf, hr]
  intro same seen merged
  have hseen : seen = Channel.seen c.channel := by
    show (match c.channel with
      | .A => ChannelsSeen.a
      | .B => ChannelsSeen.b) = _
    cases c.channel <;> rfl
  have hmerge : ∀ x, x.merge c = merged x := by
    intro x
    show x.merge c = if x.isGathering then _ else _
    rw [merge_eq, widen_eq, hseen]
    rfl
  by_cases hcheck : r.check = normalisedCheck c s.profile.checkPoly s.profile.checkInit
  · have hdup := (hhandle.trans (afterLookup_duplicate hr' (by rw [handed_profile, hcheck]))).trans
      (takeDuplicate_eq _ _ _)
    refine ⟨_, exec_copy_settled h hs hdup rfl rfl rfl, fun _ => ⟨?_, ?_, fun n x y hx hy => ?_⟩,
      fun hne => absurd hcheck hne⟩
    · rw [hh]
      generalize lookup s.stab c.station = e
      cases e <;> rfl
    · rw [hh]; exact List.length_map _
    · rw [hh] at hy
      obtain ⟨hsame, hother⟩ := mapRecord_get hx hy
      exact ⟨fun hxy => (hsame hxy).trans (hmerge x), hother⟩
  · have hconf := hhandle.trans (afterLookup_conflict hr' (by rw [handed_profile]; exact hcheck))
    refine ⟨_, exec_copy_settled h hs hconf rfl rfl rfl, fun heq => absurd heq hcheck,
      fun _ => ⟨?_, ?_, fun n x y hx hy => ?_⟩⟩
    · rw [hh]; rfl
    · rw [hh]; exact List.length_map _
    · rw [hh] at hy
      exact mapRecord_get hx hy

end Sys2Proof.Machine

namespace Sys2Proof.Machine

/-! ### Acceptance -/

/-- In the list of all indexes, the ones before an index are the smaller ones. -/
theorem finRange_split {n : Nat} {i : Fin n} {before others : List (Fin n)}
    (h : List.finRange n = before ++ i :: others) :
    (∀ j, j ∈ before ↔ j < i) ∧ ∀ j, j ∈ others ↔ i < j := by
  have hsorted : (before ++ i :: others).Pairwise (· < ·) := h ▸ List.pairwise_lt_finRange n
  obtain ⟨-, hi, hacross⟩ := List.pairwise_append.mp hsorted
  have hothers := (List.pairwise_cons.mp hi).1
  have hmem : ∀ j, j ∈ before ∨ j = i ∨ j ∈ others := by
    intro j
    have := List.mem_finRange j
    rw [h] at this
    simpa using this
  have hbefore : ∀ j ∈ before, j < i := fun j hj => hacross j hj i List.mem_cons_self
  refine ⟨fun j => ⟨hbefore j, fun hj => ?_⟩, fun j => ⟨hothers j, fun hj => ?_⟩⟩
  · rcases hmem j with hb | rfl | ho
    · exact hb
    · exact absurd hj (lt_irrefl _)
    · exact absurd (hothers j ho) (not_lt_of_gt hj)
  · rcases hmem j with hb | rfl | ho
    · exact absurd (hbefore j hb) (not_lt_of_gt hj)
    · exact absurd hj (lt_irrefl _)
    · exact ho

/-- The index of lowest value that passes a test. -/
theorem find_finRange_eq_some {n : Nat} {p : Fin n → Bool} {i : Fin n} (hi : p i = true)
    (hlow : ∀ j, j < i → p j = false) : (List.finRange n).find? p = some i := by
  obtain ⟨before, others, hl⟩ := List.append_of_mem (List.mem_finRange i)
  refine List.find?_eq_some_iff_append.mpr ⟨hi, before, others, hl, fun j hj => ?_⟩
  rw [hlow j (((finRange_split hl).1 j).mp hj)]
  rfl

/-- R5: lookup finds the place of lowest index that holds the station. -/
theorem lookup_eq_some_iff {t : StationTable} {id : StationId} {i : Fin 64} {e : Entry} :
    lookup t id = some (i, e) ↔
      t.places[i] = some e ∧ e.station = id ∧
        ∀ (j : Fin 64) (f : Entry), j < i → t.places[j] = some f → f.station ≠ id := by
  have hlowest : ∀ {k : Fin 64} {g : Entry}, lookup t id = some (k, g) →
      ∀ (j : Fin 64) (f : Entry), j < k → t.places[j] = some f → f.station ≠ id := by
    intro k g h j f hj hf hid
    obtain ⟨hk, -⟩ := lookup_some h
    unfold lookup at h
    obtain ⟨before, a, others, hl, ha, hnone⟩ := List.findSome?_eq_some_iff.mp h
    have hak : a = k := by
      split at ha
      · split at ha
        · exact (Prod.mk.inj (Option.some.inj ha)).1
        · cases ha
      · cases ha
    subst hak
    have := hnone j (((finRange_split hl).1 j).mpr hj)
    rw [hf] at this
    simp [hid] at this
  constructor
  · intro h
    obtain ⟨hi, hid⟩ := lookup_some h
    exact ⟨hi, hid, hlowest h⟩
  · rintro ⟨hi, hid, hlow⟩
    cases hl : lookup t id with
    | none => exact absurd hid (lookup_none.mp hl i e hi)
    | some p =>
      obtain ⟨k, g⟩ := p
      obtain ⟨hk, hkid⟩ := lookup_some hl
      rcases lt_trichotomy k i with hlt | rfl | hlt
      · exact absurd hkid (hlow k g hlt hk)
      · rw [hi] at hk
        rw [Option.some.inj hk]
      · exact absurd hid (hlowest hl i e hlt hi)

/-- An entry put in the place of the entry that lookup finds is found there. -/
theorem lookup_set_found {t : StationTable} {id : StationId} {i : Fin 64} {e f : Entry}
    (h : lookup t id = some (i, e)) (hf : f.station = id) :
    lookup { t with places := t.places.set i (some f) } id = some (i, f) := by
  obtain ⟨-, -, hlow⟩ := lookup_eq_some_iff.mp h
  refine lookup_eq_some_iff.mpr ⟨vector_set_fin_self _ _ _, hf, fun j g hj hg => hlow j g hj ?_⟩
  rwa [vector_set_fin_ne _ (ne_of_lt hj)] at hg

/-- An entry of a station that no place holds is found where it is put. -/
theorem lookup_set_new {t : StationTable} {id : StationId} {i : Fin 64} {f : Entry} (h : lookup t id = none)
    (hf : f.station = id) : lookup { t with places := t.places.set i (some f) } id = some (i, f) := by
  refine lookup_eq_some_iff.mpr ⟨vector_set_fin_self _ _ _, hf, fun j g hj hg => lookup_none.mp h j g ?_⟩
  rwa [vector_set_fin_ne _ (ne_of_lt hj)] at hg

theorem takeJudged_new {c : Copy} {check : Word16} {i : Fin 64} {e : Entry} {s : State}
    (h : judge e.lastSequence c.sequence = .new) :
    takeJudged c check i e s =
      accept c check (some (e.heardNew c.sequence c.endTime))
        (setPlace i (some (e.heardNew c.sequence c.endTime)) s) := by
  simp only [takeJudged, h]

theorem produceNow_gathering {r : Record} {s : State} (h : r.isGathering = true) : produceNow r s = s := by
  simp only [produceNow, h, if_true]

theorem produceNow_settled {r : Record} {s : State} (h : r.state = .settled) :
    produceNow r s = offerTelegram (itemOf r (originAtClose s.stab r) false) s := by
  simp only [produceNow, Record.isGathering, h]; rfl

/-- R54: the state of the record that a copy with an entry creates. -/
theorem creationState_entry (c : Copy) (e : Entry) :
    creationState c (some e) =
      if e.settings.mode = .gather ∧ c.urgent = false then .gathering (after c.endTime e.settings.gatherMs)
      else .settled := by
  unfold creationState
  cases c.urgent <;> cases hm : e.settings.mode <;> simp [hm]

theorem originAtClose_entry {t : StationTable} {r : Record} {i : Fin 64} {e : Entry} {o : Origin}
    (hl : lookup t r.station = some (i, e)) (hr : r.origin = some o) : originAtClose t r = some e.origin := by
  simp only [originAtClose, hr, hl, Option.map_some]

/-- R51, R54, R55: acceptance of a copy with an entry, from the state in which room has been made. -/
theorem accept_entry {c : Copy} {check : Word16} {i : Fin 64} {e : Entry} {s room : State}
    (hl : lookup s.stab c.station = some (i, e))
    (hroom : makeRoom { s with rpf.counters.accepted := bump s.rpf.counters.accepted } = room) :
    (e.settings.mode = .gather ∧ c.urgent = false →
      accept c check (some e) s = notifyStore (firstCopyOf c) (addRecord (newRecord c check (some e) s.stab) room)) ∧
    (¬ (e.settings.mode = .gather ∧ c.urgent = false) →
      accept c check (some e) s = notifyStore (firstCopyOf c)
        (offerTelegram (itemOf (newRecord c check (some e) s.stab) (some e.origin) false)
          (addRecord (newRecord c check (some e) s.stab) room))) := by
  have hstate : (newRecord c check (some e) s.stab).state = creationState c (some e) := rfl
  have hstab : room.stab = s.stab := by rw [← hroom, makeRoom_stab]
  rw [creationState_entry] at hstate
  constructor
  · intro hg
    rw [if_pos hg] at hstate
    rw [accept_eq, hroom]
    dsimp only
    rw [produceNow_gathering (by rw [Record.isGathering, hstate])]
    rfl
  · intro hg
    rw [if_neg hg] at hstate
    rw [accept_eq, hroom]
    dsimp only
    rw [produceNow_settled hstate, addRecord_stab, hstab, originAtClose_entry (r := newRecord _ _ _ _) hl rfl]
    rfl

/-- Settles O16: the copy is judged NEW, its entry hears it, and acceptance goes through its four steps; the
entry is still found after room has been made, so that the item has its origin. -/
theorem acceptedCopyWithEntry : Obligations.AcceptedCopyWithEntry := by
  intro c s i e h hl hm hnew hlast heard room gathers r n
  obtain ⟨fra, frb, hh⟩ := handed_frame c s
  have hhandle : handleCopy c (handed c s) =
      accept c (normalisedCheck c s.profile.checkPoly s.profile.checkInit)
        (some (e.heardNew c.sequence c.endTime)) (setPlace i (some (e.heardNew c.sequence c.endTime)) (handed c s)) := by
    rw [handleCopy_entry (by rwa [handed_stab]) hm,
      afterLookup_judged (by rw [handed_rpf]; exact findRecord_none.mpr hnew), takeJudged_new (judge_new hlast),
      handed_profile]
  have hfound : lookup (setPlace i (some (e.heardNew c.sequence c.endTime)) (handed c s)).stab c.station =
      some (i, e.heardNew c.sequence c.endTime) :=
    lookup_set_found (by rwa [handed_stab]) (lookup_some hl).2
  obtain ⟨hgather, hsettled⟩ := accept_entry (room := room)
    (check := normalisedCheck c s.profile.checkPoly s.profile.checkInit) hfound (by
      simp only [room, heard, hh]
      rfl)
  have hrecord : ∀ st, creationState c (some (e.heardNew c.sequence c.endTime)) = st →
      newRecord c (normalisedCheck c s.profile.checkPoly s.profile.checkInit)
        (some (e.heardNew c.sequence c.endTime))
        (setPlace i (some (e.heardNew c.sequence c.endTime)) (handed c s)).stab = r st := by
    rintro st rfl
    simp only [r]
    unfold newRecord
    cases c.channel <;> rfl
  rw [exec_copy h, hhandle]
  rw [creationState_entry] at hrecord
  constructor
  · intro hg
    rw [hgather hg, hrecord _ (if_pos hg)]
    rfl
  · intro hg
    rw [hsettled hg, hrecord _ (if_neg hg)]
    rfl

/-- R51, R54: acceptance of a forwarded copy, from the state in which room has been made. -/
theorem accept_forwarded {c : Copy} {check : Word16} {s room : State}
    (hroom : makeRoom { s with rpf.counters.accepted := bump s.rpf.counters.accepted } = room) :
    accept c check none s = offerTelegram (itemOf (newRecord c check none s.stab) none false)
      (addRecord (newRecord c check none s.stab) room) := by
  rw [accept_eq, hroom]
  dsimp only
  rw [produceNow_settled rfl]
  rfl

/-- Settles O17: a forwarded copy goes straight to acceptance, and its record is SETTLED with no origin. -/
theorem acceptedForwardedCopy : Obligations.AcceptedForwardedCopy := by
  intro c s h hl hp hnew tallied room r
  obtain ⟨fra, frb, hh⟩ := handed_frame c s
  have hroom : makeRoom { handed c s with
      rpf.counters.accepted := bump (handed c s).rpf.counters.accepted } = room := by
    simp only [room, tallied, hh]
    rfl
  have hrecord : newRecord c (normalisedCheck c s.profile.checkPoly s.profile.checkInit) none (handed c s).stab = r := by
    simp only [r, handed_stab]
    unfold newRecord
    cases c.channel <;> rfl
  rw [exec_copy h, handleCopy_forward (by rwa [handed_stab]) (by rwa [handed_stab]),
    afterLookup_forwarded (by rw [handed_rpf]; exact findRecord_none.mpr hnew), handed_profile,
    accept_forwarded hroom, hrecord]
  rfl

/-! ### Learning -/

/-- R11: the place holds a LEARNED entry. -/
theorem eligible_iff {t : StationTable} {i : Fin 64} :
    eligible t i = true ↔ ∃ e, t.places[i] = some e ∧ e.origin = .learned := by
  unfold eligible
  cases t.places[i] <;> simp

/-- R11: the eviction choice is the eligible place of greatest age, the one of lowest index among equals. -/
theorem evictee_some {now : PartTime} {t : StationTable} {i : Fin 64} (h : evictee now t = some i) :
    eligible t i = true ∧ ∀ j, eligible t j = true →
      evictionAge now t j < evictionAge now t i ∨ (evictionAge now t j = evictionAge now t i ∧ i ≤ j) := by
  obtain ⟨before, others, hl, hbefore, hothers⟩ := firstMax_some _ _ _ h
  have hmem : ∀ j, eligible t j = true ↔ j ∈ before ∨ j = i ∨ j ∈ others := by
    intro j
    have : eligible t j = true ↔ j ∈ (List.finRange 64).filter (eligible t) := by simp
    rw [this, hl]
    simp
  have hsorted : ((List.finRange 64).filter (eligible t)).Pairwise (· < ·) :=
    (List.pairwise_lt_finRange 64).filter _
  rw [hl] at hsorted
  have hafter : ∀ j ∈ others, i < j := (List.pairwise_cons.mp (List.pairwise_append.mp hsorted).2.1).1
  refine ⟨(hmem i).mpr (.inr (.inl rfl)), fun j hj => ?_⟩
  rcases (hmem j).mp hj with hb | rfl | ho
  · exact .inl (hbefore j hb)
  · exact .inr ⟨rfl, le_refl _⟩
  · exact (lt_or_eq_of_le (hothers j ho)).imp_right fun heq => ⟨heq, le_of_lt (hafter j ho)⟩

theorem evictee_none {now : PartTime} {t : StationTable} :
    evictee now t = none ↔ ∀ i, ¬ eligible t i = true := by
  unfold evictee
  rw [firstMax_none, List.filter_eq_nil_iff]
  simp

theorem evictee_eq_some_iff {now : PartTime} {t : StationTable} {i : Fin 64} :
    evictee now t = some i ↔ eligible t i = true ∧ ∀ j, eligible t j = true →
      evictionAge now t j < evictionAge now t i ∨ (evictionAge now t j = evictionAge now t i ∧ i ≤ j) := by
  refine ⟨evictee_some, fun ⟨hi, hmax⟩ => ?_⟩
  cases hk : evictee now t with
  | none => exact absurd hi (evictee_none.mp hk i)
  | some k =>
    obtain ⟨hke, hkmax⟩ := evictee_some hk
    have hik := hmax k hke
    have hki := hkmax i hi
    have : i = k := by
      rcases hik with hlt | ⟨heq, hle⟩ <;> rcases hki with hgt | ⟨heq', hge⟩
      · omega
      · omega
      · omega
      · exact le_antisymm hle hge
    rw [this]

/-- R10, R18: the free place of lowest index. -/
theorem freePlace_eq_some {t : StationTable} {i : Fin 64} (hi : t.places[i] = none)
    (hlow : ∀ j, j < i → t.places[j] ≠ none) : freePlace t = some i :=
  find_finRange_eq_some (by rw [hi]; rfl) fun j hj =>
    Bool.eq_false_iff.mpr fun h => hlow j hj (Option.isNone_iff_eq_none.mp h)

theorem placeForNew_free {now : PartTime} {t : StationTable} {i : Fin 64} (hi : t.places[i] = none)
    (hlow : ∀ j, j < i → t.places[j] ≠ none) : placeForNew now t = some i := by
  simp only [placeForNew, freePlace_eq_some hi hlow]

theorem placeForNew_full {now : PartTime} {t : StationTable} (h : ∀ j : Fin 64, t.places[j] ≠ none) :
    placeForNew now t = evictee now t := by
  simp only [placeForNew, freePlace_none.mpr h]

/-- R10: a learn that has a place. -/
theorem learn_made {id : StationId} {s : State} {i : Fin 64} (h : placeForNew s.now s.stab = some i) :
    learn id s =
      ({ setPlace i (some (newEntry id .learned s.stab.template)) s with
        rpf.counters.learned := bump s.rpf.counters.learned }, true) := by
  simp only [learn, h]

/-- R13: a learn that has none. -/
theorem learn_failed {id : StationId} {s : State} (h : placeForNew s.now s.stab = none) :
    learn id s =
      (raise .learnFull { s with rpf.counters.learnFailures := bump s.rpf.counters.learnFailures }, false) := by
  simp only [learn, h]

/-- R7, R10: a learned copy is handled as a copy of the entry that the learn makes. -/
theorem exec_copy_learned {c : Copy} {s : State} {i : Fin 64} (h : HandsOver c s)
    (hl : lookup s.stab c.station = none) (hp : s.stab.policy = .learn)
    (hi : placeForNew s.now s.stab = some i) :
    exec (.copy c) s = exec (.copy c)
      { setPlace i (some (newEntry c.station .learned s.stab.template)) s with
        rpf.counters.learned := bump s.rpf.counters.learned } := by
  set e := newEntry c.station .learned s.stab.template
  set t : State := { setPlace i (some e) s with rpf.counters.learned := bump s.rpf.counters.learned }
  have hreceiver : receiver t c.channel = receiver s c.channel := by cases c.channel <;> rfl
  have ht : HandsOver c t := ⟨h.running, by
    have := h.enabled
    unfold rxState at this ⊢
    rwa [hreceiver], h.format⟩
  have hfound : lookup t.stab c.station = some (i, e) := lookup_set_new hl rfl
  have hlearn : learn c.station (handed c s) = (handed c t, true) := by
    rw [learn_made (i := i) (by rw [handed_stab, now_eq, handed_tbs]; exact hi), handed_stab]
    unfold handed
    rw [hreceiver]
    cases c.channel <;> rfl
  rw [exec_copy h, exec_copy ht, handleCopy_learn (by rwa [handed_stab]) (by rwa [handed_stab]), hlearn,
    handleCopy_entry (by rwa [handed_stab]) (by simp [e, newEntry, StationTable.template])]
  dsimp only
  rw [if_pos rfl, handed_stab, hfound]

/-- Settles O19: the eviction choice by its two characterisations, the two places by `placeForNew`. -/
theorem learnMakesOrFails : Obligations.LearnMakesOrFails := by
  refine ⟨?_, fun c s h hl hp => ⟨fun i hi => ?_, fun hfull hnone => ?_⟩⟩
  · intro now t isLearned rank
    have hlearned : ∀ i, eligible t i = true ↔ isLearned i := fun i => eligible_iff
    have hrank : ∀ i, evictionAge now t i = rank i := fun _ => rfl
    refine ⟨fun i => ?_, ?_⟩
    · rw [evictee_eq_some_iff]
      simp only [hlearned, hrank]
    · rw [evictee_none]
      simp only [hlearned]
  · refine exec_copy_learned h hl hp ?_
    rcases hi with ⟨hi, hlow⟩ | ⟨hfull, hi⟩
    · exact placeForNew_free hi hlow
    · rw [placeForNew_full hfull, hi]
  · have hplace : placeForNew (handed c s).now (handed c s).stab = none := by
      rw [now_eq, handed_tbs, handed_stab, placeForNew_full hfull]
      exact hnone
    rw [exec_copy h, handleCopy_learn (by rwa [handed_stab]) (by rwa [handed_stab]), learn_failed hplace]
    simp only [handed_rpf, Bool.false_eq_true, if_false]

end Sys2Proof.Machine

namespace Sys2Proof.Machine

/-! ## Full reset -/

/-- R196, R197: how the word that REFCLK stops or runs, and the release, reach a part that is held. -/
theorem heldClock (ch : Channel) (s : State) (hs : s.inReset = true) :
    exec (.cellDecoded ch (.refclk false)) s = .next { s with tbs.refclkRunning := false } ∧
    (s.tbs.release = none →
      exec (.cellDecoded ch (.refclk true)) s = .next { s with tbs.refclkRunning := true }) ∧
    (s.tbs.refclkRunning = false → ∀ a b : Bool,
      exec (.fullResetEnd a b) s = .next { s with tbs.release := some (a, b) } ∧
      exec (.cellDecoded ch (.refclk true)) { s with tbs.release := some (a, b) } =
        exec (.fullResetEnd a b) { s with tbs.refclkRunning := true }) := by
  have hstart : ∀ u : State, exec (.cellDecoded ch (.refclk true)) u = .next (startRefclk u) := fun _ => rfl
  have hend : ∀ (u : State) (a b : Bool), exec (.fullResetEnd a b) u =
      .next (if u.tbs.refclkRunning then State.afterReset a b u.pending
        else if u.inReset then { u with tbs.release := some (a, b) } else u) := fun _ _ _ => rfl
  refine ⟨rfl, fun hrelease => ?_, fun hstopped a b => ⟨?_, ?_⟩⟩
  · rw [hstart, startRefclk_held hs, hrelease]
  · rw [hend, hstopped, hs]
    rfl
  · rw [hstart, startRefclk_held (by exact hs), hend]
    rfl

theorem afterReset_causes (a b : Bool) (queue : List Instr) (c : Cause) :
    causeState (State.afterReset a b queue) c =
      { occurrence := if c = .restarted then some { count := 1, first := 0 } else none
        level := c.defaultLevel } := by
  cases c <;> rfl

/-- R189: the clock and the rates that each pair of levels selects. -/
theorem resetTimeBase_rates (a b : Bool) :
    ((resetTimeBase a b).refclkMHz, (resetTimeBase a b).trunkRate, (resetTimeBase a b).millisecondPeriods,
        (resetTimeBase a b).trunkBitPeriods) =
      match a, b with
      | false, false => (4, 19200, 4000, 208)
      | false, true => (8, 57600, 8000, 139)
      | true, false => (12, 115200, 12000, 104)
      | true, true => (16, 460800, 16000, 35) := by
  cases a <;> cases b <;>
    simp [resetTimeBase, TimeBase.refclkMHz, TimeBase.trunkRate, TimeBase.millisecondPeriods,
      TimeBase.trunkBitPeriods, nearest]

/-- Settles O3: the end of the reset is `State.afterReset`, whose blocks are read off. -/
theorem fullReset : Obligations.FullReset := by
  refine ⟨fun s => ⟨_, rfl, ?_⟩, fun c s hs => exec_held hs, heldClock, fun a b s hr => ?_⟩
  · exact ⟨rfl, rfl, rfl, rfl, rfl, rfl, rfl, rfl, rfl, rfl, rfl, rfl, rfl⟩
  · have hexec : exec (.fullResetEnd a b) s = .next (State.afterReset a b s.pending) :=
      congrArg Host.Outcome.next (if_pos hr)
    refine ⟨_, hexec, rfl, rfl, rfl, rfl, ?_, rfl, rfl, rfl, rfl, rfl, ?_, rfl, rfl, rfl, rfl, ?_, rfl, rfl, rfl,
      rfl, rfl, rfl, rfl, rfl, rfl, rfl, rfl, rfl, rfl, rfl, rfl, rfl, rfl, rfl, rfl, rfl, rfl, rfl, rfl, rfl, rfl,
      ?_, rfl, afterReset_causes a b s.pending .restarted, ?_, rfl, rfl, rfl, rfl, rfl, rfl⟩
    · exact (resetTimeBase_rates a b).trans (by cases a <;> cases b <;> rfl)
    · intro i
      simp [State.afterReset, resetStationTable]
    · intro i
      simp [State.afterReset, resetStore]
    · intro c
      simp [inNotices, State.afterReset, resetTrunk]
    · intro c hc
      rw [afterReset_causes]
      cases c
      case restarted => exact absurd rfl hc
      all_goals rfl

/-! ## Warm restart -/

theorem causeState_setCause (c c' : Cause) (k : CauseState) (s : State) :
    causeState (setCause c k s) c' = if c' = c then k else causeState s c' := by
  have hindex : ∀ a b : Cause, a.index = b.index ↔ a = b := by
    intro a b
    cases a <;> cases b <;> decide
  unfold causeState
  rw [setCause_alm_causes, vector_set_fin]
  simp only [hindex]

/-- R135, R136: a raise in a CLOSED session, where no cause joins the notice set. -/
theorem raise_closed {c : Cause} {s : State} (h : s.trk.session = .closed)
    (hclear : (causeState s c).occurrence = none) :
    raise c s = decideAttn (setCause c
      { causeState s c with occurrence := some { count := 1, first := s.now } } s) := by
  rw [raise_of_clear hclear]
  simp [joinNotice, noticeDue, h, Session.isOpen]

/-- R141: with one cause pending, its level decides ATTN. -/
theorem attnDue_single {s : State} (c : Cause) (h : ∀ c', pendingCause s c' = decide (c' = c)) :
    attnDue s = decide (s.alm.attentionLevel ≤ (causeState s c).level) := by
  unfold attnDue
  simp only [h]
  cases c <;> simp [allCauses]

/-- R145: the causes cleared, the burst count 0 and the re-notify deadline set afresh. -/
def alarmCleared (s : State) : State :=
  { clearAllCauses s with
    alm.burstCount := 0
    alm.renotifyDeadline := after s.now (s.alm.renotifyS * 1000) }

theorem causeState_alarmCleared (s : State) (c : Cause) :
    causeState (alarmCleared s) c = { causeState s c with occurrence := none } := by
  unfold causeState alarmCleared clearAllCauses
  simp

/-- RESTARTED pending for the first time, now. -/
def restartedCause (s : State) : CauseState :=
  { occurrence := some { count := 1, first := s.now }, level := (causeState s .restarted).level }

/-- R145: a warm restart in CLOSED leaves RESTARTED alone pending and decides ATTN. -/
theorem restartAlarm_closed {s : State} (h : s.trk.session = .closed) :
    restartAlarm s = decideAttn (setCause .restarted (restartedCause s) (alarmCleared s)) := by
  have hraise : raise .restarted (alarmCleared s) =
      decideAttn (setCause .restarted (restartedCause s) (alarmCleared s)) := by
    rw [raise_closed (s := alarmCleared s) h (by rw [causeState_alarmCleared]), causeState_alarmCleared]
    rfl
  calc restartAlarm s = decideAttn (raise .restarted (alarmCleared s)) := rfl
    _ = decideAttn (decideAttn (setCause .restarted (restartedCause s) (alarmCleared s))) := by rw [hraise]
    _ = _ := rfl

theorem restartAlarm_causes {s : State} (h : s.trk.session = .closed) (c : Cause) :
    causeState (restartAlarm s) c =
      { occurrence := if c = .restarted then some { count := 1, first := s.now } else none
        level := (causeState s c).level } := by
  rw [restartAlarm_closed h]
  show causeState (setCause .restarted (restartedCause s) (alarmCleared s)) c = _
  rw [causeState_setCause, causeState_alarmCleared]
  split
  · subst c; rfl
  · rfl

theorem restartAlarm_attn {s : State} (h : s.trk.session = .closed) :
    (restartAlarm s).alm.attn = decide (s.alm.attentionLevel ≤ (causeState s .restarted).level) := by
  have hpending : ∀ c, pendingCause (restartAlarm s) c = decide (c = .restarted) := by
    intro c
    unfold pendingCause
    rw [restartAlarm_causes h]
    cases c <;> rfl
  have hdue : (restartAlarm s).alm.attn = attnDue (restartAlarm s) := rfl
  rw [hdue, attnDue_single .restarted hpending, restartAlarm_causes h, restartAlarm_closed h]
  rfl

/-- R109, R110: the cell in progress ends with the transmission, and is empty once its ticks are used up. -/
theorem cellRemainder_eq_nil_iff {snap : TxSnapshot} {n : Nat} (h : 1 ≤ snap.params.halfBitTicks) :
    cellRemainder snap n = [] ↔ snap.levels.length ≤ n := by
  have hticks : 0 < snap.params.cellTicks := by
    unfold TxParams.cellTicks
    split <;> omega
  have hlt := Nat.mod_lt n hticks
  unfold cellRemainder
  rw [List.take_eq_nil_iff, List.drop_eq_nil_iff]
  omega

theorem restartedTransmitter_resting {x : Transmitter} (h : x.state = .idle ∨ ∃ rest, x.state = .stopping rest) :
    restartedTransmitter x = { x with candidates := [], counters := zeroTransmitCounters } := by
  rcases h with h | ⟨rest, h⟩ <;> simp only [restartedTransmitter, h] <;> rfl

theorem restartedTransmitter_testing {x : Transmitter} {d : PartTime} (h : x.state = .testing d) :
    restartedTransmitter x =
      { x with
        state := .idle, keyLine := false, enLine := false, candidates := [], counters := zeroTransmitCounters } := by
  simp only [restartedTransmitter, h]; rfl

/-- R109, R110: a transmission whose last tick has been sent ends at once. -/
theorem restartedTransmitter_ended {x : Transmitter} {snap : TxSnapshot} {i : Fin 16} {n : Nat}
    (h : x.state = .sending snap i n) (hcell : cellRemainder snap n = []) :
    restartedTransmitter x =
      { x with
        state := .idle, keyLine := false, enLine := false, candidates := []
        counters := { zeroTransmitCounters with aborted := 1 } } := by
  simp only [restartedTransmitter, h, hcell]; rfl

/-- R109: a transmission goes to STOPPING with the cell in progress. -/
theorem restartedTransmitter_stopping {x : Transmitter} {snap : TxSnapshot} {i : Fin 16} {n : Nat}
    (h : x.state = .sending snap i n) (hcell : cellRemainder snap n ≠ []) :
    restartedTransmitter x =
      { x with
        state := .stopping (cellRemainder snap n), candidates := []
        counters := { zeroTransmitCounters with aborted := 1 } } := by
  unfold restartedTransmitter
  rw [h]
  dsimp only
  split
  · exact absurd ‹_› hcell
  · rfl

/-- The blocks before the alarm block acts on a warm restart. -/
def restartedBlocks (s : State) : State :=
  { s with
    fra := restartedReceiver s.profile.enableA
    frb := restartedReceiver s.profile.enableB
    stab.places := s.stab.places.map (fun p => p.map Entry.restarted)
    rpf := resetFilter
    dls.places := s.dls.places.map (fun p => { p with state := .free })
    dls.counters := zeroDownlinkCounters
    ftx := restartedTransmitter s.ftx
    dst := { s.dst with waiting := [], window := [], nextSequence := 0, timer := none, state := .running,
                        timeoutCount := 0, counters := zeroStreamCounters }
    trk := { s.trk with responses := [], cache := [], streamWait := 0, counters := zeroTrunkCounters } }

theorem warmRestart_eq (s : State) : warmRestart s = restartAlarm (restartedBlocks s) := rfl

theorem restartedTransmitter_kept (x : Transmitter) :
    (restartedTransmitter x).params = x.params ∧ (restartedTransmitter x).candidates = [] := by
  unfold restartedTransmitter
  dsimp only
  split
  case h_4 => split <;> exact ⟨rfl, rfl⟩
  all_goals exact ⟨rfl, rfl⟩

/-- R109, R111: the transmitter after a warm restart in SENDING. -/
theorem restartedTransmitter_sending {x : Transmitter} {snap : TxSnapshot} {i : Fin 16} {n : Nat}
    (h : x.state = .sending snap i n) :
    (restartedTransmitter x).counters.toList = [0, 0, 1, 0] ∧
      (n < snap.levels.length → 1 ≤ snap.params.halfBitTicks →
        (restartedTransmitter x).state = .stopping (cellRemainder snap n) ∧
        (restartedTransmitter x).keyLine = x.keyLine ∧ (restartedTransmitter x).enLine = x.enLine) ∧
      (snap.levels.length ≤ n →
        (restartedTransmitter x).state = .idle ∧ (restartedTransmitter x).keyLine = false ∧
        (restartedTransmitter x).enLine = false) := by
  refine ⟨?_, fun hn hunit => ?_, fun hn => ?_⟩
  · by_cases hcell : cellRemainder snap n = []
    · rw [restartedTransmitter_ended h hcell]; rfl
    · rw [restartedTransmitter_stopping h hcell]; rfl
  · have hcell : cellRemainder snap n ≠ [] := fun hnil =>
      absurd ((cellRemainder_eq_nil_iff hunit).mp hnil) (Nat.not_le.mpr hn)
    rw [restartedTransmitter_stopping h hcell]
    exact ⟨rfl, rfl, rfl⟩
  · have hcell : cellRemainder snap n = [] := by
      unfold cellRemainder
      rw [List.drop_of_length_le hn, List.take_nil]
    rw [restartedTransmitter_ended h hcell]
    exact ⟨rfl, rfl, rfl⟩

/-- Settles O36: the blocks are set first, and the alarm block then acts on a CLOSED session. -/
theorem warmRestartOfEveryBlock : Obligations.WarmRestartOfEveryBlock := by
  intro s h t
  have hblocks : (restartedBlocks s).trk.session = .closed := h
  have hcauses : ∀ c, causeState t c =
      { occurrence := if c = .restarted then some { count := 1, first := s.now } else none
        level := (causeState s c).level } := restartAlarm_causes hblocks
  have hattn : t.alm.attn = decide (s.alm.attentionLevel ≤ (causeState s .restarted).level) :=
    restartAlarm_attn hblocks
  have ht : t = decideAttn (setCause .restarted (restartedCause (restartedBlocks s))
      (alarmCleared (restartedBlocks s))) := restartAlarm_closed hblocks
  clear_value t
  subst ht
  obtain ⟨hparams, hcandidates⟩ := restartedTransmitter_kept s.ftx
  refine ⟨rfl, rfl, rfl, rfl, rfl, fun ch => ?_, rfl, rfl, fun i => ?_, rfl, rfl, fun i => ?_, rfl, hparams,
    hcandidates, fun hx => ?_, fun d hx => ?_, fun snap i n hx => restartedTransmitter_sending hx, rfl, rfl, hcauses,
    rfl, rfl, rfl, rfl, rfl, hattn⟩
  · cases ch <;> rfl
  · simp [alarmCleared, restartedBlocks, clearAllCauses]
    rfl
  · simp [alarmCleared, restartedBlocks, clearAllCauses]
  · show (restartedTransmitter s.ftx).state = _ ∧ (restartedTransmitter s.ftx).keyLine = _ ∧
      (restartedTransmitter s.ftx).enLine = _ ∧ (restartedTransmitter s.ftx).counters.toList = _
    rw [restartedTransmitter_resting hx]
    exact ⟨rfl, rfl, rfl, rfl⟩
  · show (restartedTransmitter s.ftx).state = _ ∧ (restartedTransmitter s.ftx).keyLine = _ ∧
      (restartedTransmitter s.ftx).enLine = _ ∧ (restartedTransmitter s.ftx).counters.toList = _
    rw [restartedTransmitter_testing hx]
    exact ⟨rfl, rfl, rfl, rfl⟩

end Sys2Proof.Machine

namespace Sys2Proof.Machine

/-! ## Requests taken at once -/

/-- The count of a valid frame moves the idle deadline, the counters and the assembler alone. -/
theorem counted_frame (s : State) : ∃ session, counted s =
    { s with
      trk.assembler := .collecting [] false
      trk.session := session
      trk.counters.validFrames := bump s.trk.counters.validFrames } := by
  unfold counted countValid
  obtain ⟨session, h⟩ := restartIdle_frame
    { newContent s with trk.counters.validFrames := bump (newContent s).trk.counters.validFrames }
  rw [h]
  exact ⟨session, rfl⟩

@[simp] theorem counted_tbs (s : State) : (counted s).tbs = s.tbs := by
  obtain ⟨_, h⟩ := counted_frame s; rw [h]
@[simp] theorem counted_stab (s : State) : (counted s).stab = s.stab := by
  obtain ⟨_, h⟩ := counted_frame s; rw [h]
@[simp] theorem counted_rpf (s : State) : (counted s).rpf = s.rpf := by
  obtain ⟨_, h⟩ := counted_frame s; rw [h]
@[simp] theorem counted_dls (s : State) : (counted s).dls = s.dls := by
  obtain ⟨_, h⟩ := counted_frame s; rw [h]
@[simp] theorem counted_mre (s : State) : (counted s).mre = s.mre := by
  obtain ⟨_, h⟩ := counted_frame s; rw [h]
@[simp] theorem counted_trk_held (s : State) : (counted s).trk.held = s.trk.held := by
  obtain ⟨_, h⟩ := counted_frame s; rw [h]
@[simp] theorem counted_trk_responses (s : State) : (counted s).trk.responses = s.trk.responses := by
  obtain ⟨_, h⟩ := counted_frame s; rw [h]
@[simp] theorem counted_trk_cache (s : State) : (counted s).trk.cache = s.trk.cache := by
  obtain ⟨_, h⟩ := counted_frame s; rw [h]

@[simp] theorem slotState_counted (s : State) (i : Fin 16) : slotState (counted s) i = slotState s i := by
  unfold slotState; rw [counted_dls]

/-- R155, R159: a valid frame leaves the session as open as it was. -/
theorem counted_isOpen (s : State) : (counted s).trk.session.isOpen = s.trk.session.isOpen := by
  unfold counted countValid restartIdle
  split
  · rfl
  · rename_i d h
    have hs : s.trk.session = .opened d := h
    rw [hs]
    rfl

/-- R151: a request taken at once is judged in the event of its arrival, and its response is queued. -/
theorem requestArrives_atOnce {s : State} {tag code : Byte} {args : List Byte} (h : TakesAtOnce s tag code)
    (hargs : args.length ≤ 79) {reply : Reply} {t : State}
    (hjudge : judgeRequest code args (counted s) = (reply, t)) :
    event (requestArrives tag code args) s =
      .next (answered (replyWith tag code reply.status reply.results) (concludesSession code reply.status) t) := by
  have hheld : requestArrives tag code args s =
      { counted s with trk.held := [{ tag := tag, body := code :: args }] } := by
    unfold requestArrives
    rw [requestFrame_held (body := code :: args) h.clean (Nat.succ_le_succ hargs) (by rw [h.noneHeld]; decide), h.noneHeld]
    rfl
  have hopen : intakeOpen { counted s with trk.held := [{ tag := tag, body := code :: args }] } = true := by
    have hready := h.ready
    have hroom := h.room
    simp [intakeOpen, hready, hroom]
  have hcounted : ({ counted s with trk.held := [] } : State) = counted s := by
    obtain ⟨_, hc⟩ := counted_frame s
    rw [hc, ← h.noneHeld]
  have huncached : (if tag = 0 then none else findCached (counted s).trk.cache tag code) = none := by
    split
    · rfl
    · rw [counted_trk_cache]
      exact h.uncached.resolve_left ‹_›
  have htaken : takeIn { tag := tag, body := code :: args } (counted s) =
      pushResponse (replyWith tag code reply.status reply.results) (concludesSession code reply.status)
        (recordResponse (replyWith tag code reply.status reply.results) t) := by
    unfold takeIn
    simp only [huncached]
    unfold answerAfresh
    rw [hjudge]
    rfl
  have hnone : (takeIn { tag := tag, body := code :: args } (counted s)).trk.held = [] := by
    rw [takeIn_held, counted_trk_held, h.noneHeld]
  have hsettle : settle { counted s with trk.held := [{ tag := tag, body := code :: args }] } =
      settle (takeIn { tag := tag, body := code :: args } (counted s)) := by
    have hintake : intakeAll { counted s with trk.held := [{ tag := tag, body := code :: args }] } =
        takeIn { tag := tag, body := code :: args } (counted s) :=
      (intakeAll_one rfl hopen).trans (congrArg _ hcounted)
    unfold settle
    rw [hintake, intakeAll_of_noneHeld hnone]
  rw [event_running h.running, hheld, hsettle, settle_of_noneHeld hnone, htaken]
  rfl

/-- R151, R167: in an OPEN session a defined request goes to the request engine. -/
theorem judgeRequest_open {s : State} {code : Byte} (hopen : s.trk.session ≠ .closed)
    (hcode : definedCodes.contains code = true) (args : List Byte) :
    judgeRequest code args (counted s) = carryOut code args (counted s) := by
  have hisOpen : (counted s).trk.session.isOpen = true := by
    rw [counted_isOpen]
    cases hs : s.trk.session with
    | closed => exact absurd hs hopen
    | opened d => rfl
  unfold judgeRequest
  rw [hcode, hisOpen]
  rfl

/-- A request code of those that no session or restart waits for. -/
def plainCode (code : Byte) : Bool := definedCodes.contains code && code != 0x11 && code != 0x13

theorem plainCode_defined {code : Byte} (h : plainCode code = true) :
    definedCodes.contains code = true ∧ ∀ st, concludesSession code st = false := by
  simp only [plainCode, Bool.and_eq_true, bne_iff_ne, ne_eq] at h
  obtain ⟨⟨hdefined, hclose⟩, hrestart⟩ := h
  exact ⟨hdefined, fun st => by
    rw [concludesSession, beq_eq_false_iff_ne.mpr hclose, beq_eq_false_iff_ne.mpr hrestart]
    rfl⟩

/-- R167: a request that is taken at once in OPEN and carried out. -/
theorem request_carriedOut {s t : State} {tag code : Byte} {args results : List Byte} (h : TakesAtOnce s tag code)
    (hopen : s.trk.session ≠ .closed) (hcode : plainCode code = true) (hargs : args.length ≤ 79)
    (hcarry : carryOut code args (counted s) = done results t) :
    event (requestArrives tag code args) s = .next (carriedOut tag code results t) := by
  obtain ⟨hdefined, hconcludes⟩ := plainCode_defined hcode
  rw [requestArrives_atOnce h hargs ((judgeRequest_open hopen hdefined args).trans hcarry), hconcludes]
  rfl

/-- R168: a request that is taken at once in OPEN and refused. -/
theorem request_refused {s : State} {tag code : Byte} {args : List Byte} {st : Status} (h : TakesAtOnce s tag code)
    (hopen : s.trk.session ≠ .closed) (hcode : plainCode code = true) (hargs : args.length ≤ 79)
    (hcarry : carryOut code args (counted s) = refuse st (counted s)) :
    event (requestArrives tag code args) s = .next (refusedWith tag code st s) := by
  obtain ⟨hdefined, hconcludes⟩ := plainCode_defined hcode
  rw [requestArrives_atOnce h hargs ((judgeRequest_open hopen hdefined args).trans hcarry), hconcludes]
  rfl

/-! ## Bytes of a request -/

theorem byteOf_toNat (n : Nat) : (byteOf n).toNat = n % 256 := BitVec.toNat_ofNat n 8

/-- R203: the station ID that its three bytes stand for. -/
theorem id24_be24 (id : StationId) :
    id24 (byteOf (id.toNat / 65536)) (byteOf (id.toNat / 256)) (byteOf id.toNat) = id := by
  apply BitVec.eq_of_toNat_eq
  have := id.isLt
  simp only [id24, byteOf_toNat, BitVec.toNat_ofNat]
  omega

theorem num16_be16 (w : Word16) : num16 (byteOf (w.toNat / 256)) (byteOf w.toNat) = w.toNat := by
  have := w.isLt
  simp only [num16, byteOf_toNat]
  omega

theorem reserved_iff {id : StationId} : id.reserved = true ↔ id = 0 ∨ id = 0xFFFFFF := by
  simp [StationId.reserved]

theorem reserved_false {id : StationId} (h0 : id ≠ 0) (h1 : id ≠ 0xFFFFFF) : id.reserved = false := by
  rw [Bool.eq_false_iff, ne_eq, reserved_iff]
  exact not_or.mpr ⟨h0, h1⟩

/-! ## PUT-STATION -/

theorem carryOut_putStation (args : List Byte) (s : State) : carryOut 0x30 args s = reqPutStation args s := rfl

/-- R17: the settings that a PUT-STATION brings. -/
def putSettings (mode : Mode) (g w : Word16) (reply : Bool) (rd cs ww : Byte) : Settings :=
  { mode := mode, gatherMs := g.toNat, repeatMs := w.toNat, replyEnabled := reply, replyDelayMs := rd.toNat
    copySpacingMs := cs.toNat, windowWidthMs := ww.toNat }

/-- R2, R17: the ranges of the settings. -/
theorem settings_valid_iff {e : Settings} :
    e.valid = true ↔
      10 ≤ e.gatherMs ∧ e.gatherMs ≤ 2000 ∧ 100 ≤ e.repeatMs ∧ e.repeatMs ≤ 60000 ∧ e.gatherMs ≤ e.repeatMs ∧
        1 ≤ e.replyDelayMs ∧ e.replyDelayMs ≤ 250 ∧ e.copySpacingMs ≤ 250 ∧ 1 ≤ e.windowWidthMs ∧
        e.windowWidthMs ≤ 100 := by
  simp only [Settings.valid, Bool.and_eq_true, decide_eq_true_eq, and_assoc]

/-- R17, R177: PUT-STATION with its codes read. -/
theorem reqPutStation_read {id : StationId} {m : Byte} {g w : Word16} {re rd cs ww : Byte} {s : State} {mode : Mode}
    {reply : Bool} (hm : modeOf m = some mode) (hre : boolOf re = some reply) :
    reqPutStation (putStationArgs id m g w re rd cs ww) s =
      if !id.reserved && (putSettings mode g w reply rd cs ww).valid then
        putStation id (putSettings mode g w reply rd cs ww) s
      else refuse .badValue s := by
  simp only [reqPutStation, putStationArgs, be24, be16, List.cons_append, List.nil_append, hm, hre,
    id24_be24, num16_be16]
  rfl

/-- R17: PUT-STATION with an undefined mode or reply code. -/
theorem reqPutStation_undefined {id : StationId} {m : Byte} {g w : Word16} {re rd cs ww : Byte} {s : State}
    (h : modeOf m = none ∨ boolOf re = none) :
    reqPutStation (putStationArgs id m g w re rd cs ww) s = refuse .badValue s := by
  simp only [reqPutStation, putStationArgs, be24, be16, List.cons_append, List.nil_append]
  cases hm : modeOf m with
  | none => rfl
  | some mode => rw [h.resolve_left (by rw [hm]; nofun)]

theorem modeOf_code (m : Mode) : modeOf m.code = some m := by cases m <;> rfl

theorem boolOf_code (b : Bool) : boolOf (if b then 0x01 else 0x00) = some b := by cases b <;> rfl

theorem setPlace_counted (i : Fin 64) (e : Option Entry) (s : State) :
    setPlace i e (counted s) = { counted s with stab.places := s.stab.places.set i e } := by
  simp only [setPlace, counted_stab]

/-- R19: a station that has an entry. -/
theorem putStation_found {id : StationId} {settings : Settings} {s : State} {i : Fin 64} {e : Entry}
    (hl : lookup s.stab id = some (i, e)) :
    putStation id settings s = done [byteOf i.val, 0x00] (setPlace i (some (e.replaced settings)) s) := by
  simp only [putStation, hl]

/-- R18: a new station, in a free place or in the place of an evicted entry. -/
theorem putStation_new {id : StationId} {settings : Settings} {s : State} {i : Fin 64}
    (hl : lookup s.stab id = none) (hi : placeForNew s.now s.stab = some i) :
    putStation id settings s =
      done ([byteOf i.val, byteOf (1 + flagBit ((s.stab.places[i]).map Entry.station).isSome 2)] ++
          optBytes be24 ((s.stab.places[i]).map Entry.station))
        (setPlace i (some (newEntry id .pinned settings)) s) := by
  simp only [putStation, hl, hi]

theorem putStation_full {id : StationId} {settings : Settings} {s : State} (hl : lookup s.stab id = none)
    (hi : placeForNew s.now s.stab = none) : putStation id settings s = refuse .tableFull s := by
  simp only [putStation, hl, hi]

theorem putStationArgs_length (id : StationId) (m : Byte) (g w : Word16) (re rd cs ww : Byte) :
    (putStationArgs id m g w re rd cs ww).length ≤ 79 := by
  simp [putStationArgs, be24, be16]

/-- Settles O46: the arguments are read back, and the table answers by lookup, a place, or neither. -/
theorem putStationWritesTheEntry : Obligations.PutStationWritesTheEntry := by
  intro tag id m g w re rd cs ww s h hopen h0 h1 hg hg' hw hw' hgw hrd hrd' hcs hww hww' settings cmd fresh put
  have hvalid : (putSettings m g w re rd cs ww).valid = true := by
    rw [settings_valid_iff]
    simp only [putSettings]
    omega
  have hcarry : carryOut 0x30 (putStationArgs id m.code g w (if re then 0x01 else 0x00) rd cs ww) (counted s) =
      putStation id settings (counted s) := by
    rw [carryOut_putStation, reqPutStation_read (modeOf_code m) (boolOf_code re), reserved_false h0 h1, hvalid]
    rfl
  have hdone : ∀ results t, putStation id settings (counted s) = done results t →
      exec cmd s = .next (carriedOut tag 0x30 results t) := fun results t ht =>
    request_carriedOut h hopen (by decide) (putStationArgs_length ..) (hcarry.trans ht)
  have hplace : placeForNew (counted s).now (counted s).stab = placeForNew s.now s.stab := by
    simp only [now_eq, counted_tbs, counted_stab]
  refine ⟨fun i e hl => ?_, fun hl => ⟨fun i hi hlow => ?_, fun hfull => ⟨fun i e hi he => ?_, fun hi => ?_⟩⟩⟩
  · refine hdone _ _ ((putStation_found (by rwa [counted_stab])).trans ?_)
    rw [setPlace_counted]
    rfl
  · refine hdone _ _ ((putStation_new (i := i) (by rwa [counted_stab]) ?_).trans ?_)
    · rw [hplace, placeForNew_free hi hlow]
    · rw [setPlace_counted, counted_stab, hi]
      rfl
  · refine hdone _ _ ((putStation_new (i := i) (by rwa [counted_stab]) ?_).trans ?_)
    · rw [hplace, placeForNew_full hfull, hi]
    · rw [setPlace_counted, counted_stab, he]
      rfl
  · refine request_refused h hopen (by decide) (putStationArgs_length ..) (hcarry.trans ?_)
    exact putStation_full (by rwa [counted_stab]) (by rw [hplace, placeForNew_full hfull, hi])

end Sys2Proof.Machine

namespace Sys2Proof.Machine

/-! ## GET-STATION and LIST-STATIONS -/

theorem carryOut_getStation (args : List Byte) (s : State) : carryOut 0x32 args s = reqGetStation args s := rfl

theorem carryOut_listStations (args : List Byte) (s : State) : carryOut 0x33 args s = reqListStations args s := rfl

theorem be24_length_le (id : StationId) : (be24 id).length ≤ 79 := by simp [be24]

/-- R179: GET-STATION with its station ID read. -/
theorem reqGetStation_reserved {id : StationId} (s : State) (h : id.reserved = true) :
    reqGetStation (be24 id) s = refuse .badValue s := by
  simp only [reqGetStation, be24, id24_be24, h, if_true]

theorem reqGetStation_missing {id : StationId} {s : State} (h : id.reserved = false)
    (hl : lookup s.stab id = none) : reqGetStation (be24 id) s = refuse .notFound s := by
  simp only [reqGetStation, be24, id24_be24, h, hl, Bool.false_eq_true, if_false]

theorem reqGetStation_found {id : StationId} {s : State} {i : Fin 64} {e : Entry} (h : id.reserved = false)
    (hl : lookup s.stab id = some (i, e)) :
    reqGetStation (be24 id) s = done (stationResults i e (slotCount s id)) s := by
  simp only [reqGetStation, be24, id24_be24, h, hl, Bool.false_eq_true, if_false]

theorem originCode_some (o : Origin) : originCode (some o) = if o = .pinned then 0x01 else 0x02 := by
  cases o <;> rfl

theorem optBytes_byte (b : Option Byte) : optBytes (fun b => [b]) b = b.toList := by cases b <;> rfl

theorem optBytes_eq_flatMap {α : Type} (f : α → List Byte) (x : Option α) : optBytes f x = x.toList.flatMap f := by
  cases x <;> simp [optBytes]

/-- R4, R71: a station's slots, counted by listing them. -/
theorem slotCount_eq_length (s : State) (id : StationId) :
    slotCount s id =
      ((List.finRange 16).filter (fun j => (slotState s j).downlink.any (fun d => d.station == id))).length :=
  List.countP_eq_length_filter

theorem slotCount_counted (s : State) (id : StationId) : slotCount (counted s) id = slotCount s id := by
  simp only [slotCount, slotState_counted]

/-- R180: the occupied entries from an index on, by leaving out the places before it. -/
theorem entriesFrom_eq (t : StationTable) (start : Nat) :
    entriesFrom t start =
      ((List.finRange 64).drop start).filterMap (fun i => (t.places[i]).map (fun e => (i, e))) := by
  have hbefore : ∀ i ∈ (List.finRange 64).take start, ¬ start ≤ i.val := by
    intro i hi
    obtain ⟨k, hk, rfl⟩ := List.mem_take_iff_getElem.mp hi
    simp only [List.getElem_finRange, Fin.cast_mk]
    omega
  have hfrom : ∀ i ∈ (List.finRange 64).drop start, start ≤ i.val := by
    intro i hi
    obtain ⟨k, hk, rfl⟩ := List.mem_drop_iff_getElem.mp hi
    simp only [List.getElem_finRange, Fin.cast_mk]
    omega
  unfold entriesFrom
  conv_lhs => rw [← List.take_append_drop start (List.finRange 64)]
  rw [List.filterMap_append, List.filterMap_eq_nil_iff.mpr fun i hi => if_neg (hbefore i hi), List.nil_append]
  exact List.filterMap_congr fun i hi => if_pos (hfrom i hi)

/-- R180: with at most 8 entries found, all are listed and none follows. -/
theorem listResults_short {found : List (Fin 64 × Entry)} (h : found.length ≤ 8) :
    listResults found = [byteOf found.length, 0x00] ++
      found.flatMap (fun p => [byteOf p.1.val] ++ be24 p.2.station ++ [originCode (some p.2.origin)]) := by
  unfold listResults
  dsimp only
  rw [List.take_of_length_le h, if_neg (Nat.not_lt.mpr h)]
  rfl

/-- R180: with a ninth entry found, eight are listed and the index after the eighth follows. -/
theorem listResults_long {before others : List (Fin 64 × Entry)} {i : Fin 64} {e : Entry}
    (hb : before.length = 7) (ho : others ≠ []) :
    listResults (before ++ (i, e) :: others) = [0x08, 0x01, byteOf (i.val + 1)] ++
      (before ++ [(i, e)]).flatMap
        (fun p => [byteOf p.1.val] ++ be24 p.2.station ++ [originCode (some p.2.origin)]) := by
  have htake : (before ++ (i, e) :: others).take 8 = before ++ [(i, e)] := by
    rw [List.append_cons]
    exact List.take_left' (by simp [hb])
  have hlen : 8 < (before ++ (i, e) :: others).length := by
    have := List.length_pos_iff.mpr ho
    simp only [List.length_append, List.length_cons]
    omega
  unfold listResults
  dsimp only
  rw [htake, if_pos hlen, List.getLast?_concat]
  simp only [List.length_append, hb]
  rfl

/-- Settles O48: both requests read their arguments back and answer without a change. -/
theorem stationsAreRead : Obligations.StationsAreRead := by
  constructor
  · intro tag id s h hopen
    have hdone : ∀ results, reqGetStation (be24 id) (counted s) = done results (counted s) →
        exec (.getStation tag id) s = .next (carriedOut tag 0x32 results (counted s)) := fun results hr =>
      request_carriedOut h hopen (by decide) (be24_length_le id) hr
    have hrefused : ∀ st, reqGetStation (be24 id) (counted s) = refuse st (counted s) →
        exec (.getStation tag id) s = .next (refusedWith tag 0x32 st s) := fun st hr =>
      request_refused h hopen (by decide) (be24_length_le id) hr
    refine ⟨fun hid => ?_, fun h0 h1 hl => ?_, ?_⟩
    · exact hrefused _ (reqGetStation_reserved _ (reserved_iff.mpr hid))
    · exact hrefused _ (reqGetStation_missing (reserved_false h0 h1) (by rwa [counted_stab]))
    · intro i e h0 h1 hl slots
      have hslots : slotCount (counted s) id = slots.length := by
        rw [slotCount_counted, slotCount_eq_length]
      refine hdone _ ((reqGetStation_found (reserved_false h0 h1) (by rwa [counted_stab])).trans ?_)
      rw [hslots, stationResults, originCode_some, optBytes_byte, optBytes_eq_flatMap]
      rfl
  · intro tag start s h hopen
    refine ⟨fun hhigh => ?_, ?_⟩
    · exact request_refused h hopen (by decide) (by simp) (if_pos hhigh)
    · intro hlow found rows
      have hrows : ∀ l : List (Fin 64 × Entry), l.flatMap
          (fun p => [byteOf p.1.val] ++ be24 p.2.station ++ [originCode (some p.2.origin)]) = rows l := by
        intro l
        simp only [rows, originCode_some]
      have hlist : reqListStations [start] (counted s) = done (listResults found) (counted s) := by
        have hfound : entriesFrom (counted s).stab start.toNat = found := by
          rw [counted_stab, entriesFrom_eq]
        rw [← hfound]
        exact if_neg (Nat.not_lt.mpr hlow)
      have hdone : exec (.listStations tag start) s =
          .next (carriedOut tag 0x33 (listResults found) (counted s)) :=
        request_carriedOut h hopen (by decide) (by simp) hlist
      refine ⟨fun hshort => ?_, fun before i e others hf hb ho => ?_⟩
      · rw [hdone, listResults_short hshort, hrows]
      · rw [hdone, hf, listResults_long hb ho, hrows]

/-! ## QUEUE-DOWNLINK -/

theorem carryOut_queueDownlink (args : List Byte) (s : State) :
    carryOut 0x40 args s = reqQueueDownlink args s := rfl

/-- R72, R181: QUEUE-DOWNLINK with its arguments read. -/
theorem reqQueueDownlink_read {id : StationId} {hostTag attempts : Byte} {life : Word16} {payload : List Byte}
    (s : State) (hp : payload.length ≤ 71) :
    reqQueueDownlink (queueDownlinkArgs id hostTag attempts life payload) s =
      if queueArgsValid id hostTag attempts life.toNat payload.length then
        queueDownlink id hostTag attempts.toNat life.toNat payload s
      else refuse .badValue s := by
  have hlen : payload.length = (byteOf payload.length).toNat := by
    rw [byteOf_toNat]
    omega
  simp only [reqQueueDownlink, queueDownlinkArgs, be24, be16, List.cons_append, List.nil_append, id24_be24,
    num16_be16]
  rw [if_neg (by rw [← hlen]; exact fun h => h rfl)]

/-- R72, condition 1. -/
theorem queueArgsValid_iff {id : StationId} {hostTag attempts : Byte} {life n : Nat} :
    queueArgsValid id hostTag attempts life n = true ↔
      id ≠ 0 ∧ id ≠ 0xFFFFFF ∧ hostTag ≠ 0 ∧ 1 ≤ attempts.toNat ∧ attempts.toNat ≤ 8 ∧ 1 ≤ life ∧ life ≤ 3600 ∧
        n ≤ 24 := by
  have htag : 1 ≤ hostTag.toNat ↔ hostTag ≠ 0 := by
    rw [Nat.one_le_iff_ne_zero, ne_eq, ne_eq, ← BitVec.toNat_inj]
    rfl
  have hid : (!id.reserved) = true ↔ id ≠ 0 ∧ id ≠ 0xFFFFFF := by
    rw [Bool.not_eq_true', Bool.eq_false_iff, ne_eq, reserved_iff, not_or]
  simp only [queueArgsValid, Bool.and_eq_true, decide_eq_true_eq, hid, htag, and_assoc]

theorem queueDownlinkArgs_length {id : StationId} {hostTag attempts : Byte} {life : Word16} {payload : List Byte}
    (hp : payload.length ≤ 71) : (queueDownlinkArgs id hostTag attempts life payload).length ≤ 79 := by
  simp only [queueDownlinkArgs, be24, be16, List.length_append, List.length_cons, List.length_nil]
  omega

/-- A running maximum of successors exceeds every member. -/
theorem lt_foldl_max_succ {ι : Type} (f : ι → Nat) (l : List ι) (n : Nat) :
    n ≤ l.foldl (fun n i => max n (f i + 1)) n ∧ ∀ k ∈ l, f k < l.foldl (fun n i => max n (f i + 1)) n := by
  induction l generalizing n with
  | nil => exact ⟨le_refl n, nofun⟩
  | cons i l ih =>
    obtain ⟨hle, hlt⟩ := ih (max n (f i + 1))
    rw [List.foldl_cons]
    refine ⟨by omega, fun k hk => ?_⟩
    rcases List.mem_cons.mp hk with rfl | hk
    · omega
    · exact hlt k hk

/-- R69, R73: the next queue order is later than that of every slot. -/
theorem order_lt_nextOrder {s : State} {k : Fin 16} {d : Downlink} (h : (slotState s k).downlink = some d) :
    d.order < nextOrder s := by
  have hlt := (lt_foldl_max_succ (slotOrder s) (List.finRange 16) 0).2 k (List.mem_finRange k)
  have horder : slotOrder s k = d.order := by rw [slotOrder, h]; rfl
  rwa [horder] at hlt

theorem downlink_isNone {st : SlotState} : st.downlink.isNone = true ↔ st = .free := by
  cases st <;> simp [SlotState.downlink]

theorem queueDownlink_notFound {id : StationId} {hostTag : Byte} {attempts life : Nat} {payload : List Byte}
    {s : State} (hl : lookup s.stab id = none) :
    queueDownlink id hostTag attempts life payload s = refuse .notFound s := by
  simp only [queueDownlink, hl]

/-- R72: the later refusals in their order, and the place of lowest index. -/
theorem queueDownlink_found {id : StationId} {hostTag : Byte} {attempts life : Nat} {payload : List Byte}
    {s : State} {j : Fin 64} {e : Entry} (hl : lookup s.stab id = some (j, e)) :
    queueDownlink id hostTag attempts life payload s =
      if e.settings.replyEnabled = false then refuse .noReply s
      else if 4 ≤ slotCount s id then refuse .stationLimit s
      else (freeSlotPlace s).elim (refuse .poolFull s) fun i =>
        done [byteOf i.val, (s.dls.places[i]).generation + 1, e.nextDownlinkSeq]
          (queueInto i j e hostTag attempts life payload s) := by
  simp only [queueDownlink, hl, Bool.not_eq_true']
  cases freeSlotPlace s <;> rfl

/-- Settles O49: the arguments are read back, the refusals come in the order of the conditions, and the accepted
downlink takes `nextOrder`. -/
theorem queueDownlinkFillsAPlace : Obligations.QueueDownlinkFillsAPlace := by
  intro tag id hostTag attempts life payload s h hopen hp cmd valid mine
  have hread := reqQueueDownlink_read (id := id) (hostTag := hostTag) (attempts := attempts) (life := life)
    (counted s) hp
  have hvalid : queueArgsValid id hostTag attempts life.toNat payload.length = true ↔ valid := queueArgsValid_iff
  have hmine : slotCount (counted s) id = mine := by rw [slotCount_counted, slotCount_eq_length]
  have hrefused : ∀ st, reqQueueDownlink (queueDownlinkArgs id hostTag attempts life payload) (counted s) =
      refuse st (counted s) → exec cmd s = .next (refusedWith tag 0x40 st s) := fun st hr =>
    request_refused h hopen (by decide) (queueDownlinkArgs_length hp) hr
  have hdone : ∀ results t, reqQueueDownlink (queueDownlinkArgs id hostTag attempts life payload) (counted s) =
      done results t → exec cmd s = .next (carriedOut tag 0x40 results t) := fun results t hr =>
    request_carriedOut h hopen (by decide) (queueDownlinkArgs_length hp) hr
  refine ⟨fun hbad => ?_, fun hok hl => ?_, fun j e hok hl => ?_⟩
  · exact hrefused _ (hread.trans (if_neg fun hv => hbad (hvalid.mp hv)))
  · exact hrefused _ ((hread.trans (if_pos (hvalid.mpr hok))).trans
      (queueDownlink_notFound (by rwa [counted_stab])))
  · have hfound := (hread.trans (if_pos (hvalid.mpr hok))).trans
      (queueDownlink_found (j := j) (e := e) (by rwa [counted_stab]))
    rw [hmine] at hfound
    refine ⟨fun hno => ?_, fun hyes hlimit => ?_, fun hyes hroom hfull => ?_, fun i hyes hroom hi hlow => ?_⟩
    · exact hrefused _ (hfound.trans (if_pos hno))
    · exact hrefused _ (hfound.trans ((if_neg (by rw [hyes]; nofun)).trans (if_pos hlimit)))
    · have hplace : freeSlotPlace (counted s) = none := by
        refine List.find?_eq_none.mpr fun k _ => ?_
        rw [slotState_counted, downlink_isNone]
        exact hfull k
      rw [if_neg (by rw [hyes]; nofun), if_neg (Nat.not_le.mpr hroom), hplace] at hfound
      exact hrefused _ hfound
    · have hplace : freeSlotPlace (counted s) = some i := by
        refine find_finRange_eq_some ?_ fun k hk => ?_
        · rw [slotState_counted, downlink_isNone, hi]
        · rw [slotState_counted, Bool.eq_false_iff, ne_eq, downlink_isNone]
          exact hlow k hk
      rw [if_neg (by rw [hyes]; nofun), if_neg (Nat.not_le.mpr hroom), hplace] at hfound
      refine ⟨nextOrder (counted s), fun k d hd => order_lt_nextOrder (by rwa [slotState_counted]), ?_⟩
      refine hdone _ _ (hfound.trans ?_)
      have hid := (lookup_some hl).2
      simp only [Option.elim_some, queueInto, setPlace_counted, counted_dls, now_eq, counted_tbs, hid]
      rfl

end Sys2Proof.Machine

namespace Sys2Proof.Machine

/-! ## DROP-STATION -/

theorem carryOut_dropStation (args : List Byte) (s : State) : carryOut 0x31 args s = reqDropStation args s := rfl

/-- R86: a slot in this state is discarded by the station's discard claim. -/
def SlotState.discardedFor (id : StationId) (st : SlotState) : Bool := st.claims == some id && !st.isSending

/-- R86, R88: the downlink of a place, if any, reaches DISCARDED. -/
def discardAt (s : State) (i : Fin 16) : State :=
  match (slotState s i).downlink with
  | none => s
  | some d => reachResult i d .discarded s

/-- R86: a discard claim meets one slot. -/
theorem discardSlot_eq (id : StationId) (s : State) (i : Fin 16) :
    discardSlot id s i = if (slotState s i).discardedFor id then discardAt s i else s := by
  unfold discardSlot discardAt
  cases slotState s i <;>
    simp [SlotState.discardedFor, SlotState.claims, SlotState.isSending, SlotState.downlink]

/-- R86: slots are discarded in order of index, each as it stood before the claim. -/
theorem foldl_discardSlot (id : StationId) {l : List (Fin 16)} (hl : l.Nodup) (s : State) :
    l.foldl (discardSlot id) s = (l.filter fun i => (slotState s i).discardedFor id).foldl discardAt s := by
  induction l generalizing s with
  | nil => rfl
  | cons i l ih =>
    obtain ⟨hi, hl⟩ := List.nodup_cons.mp hl
    have hothers : (l.filter fun j => (slotState (discardSlot id s i) j).discardedFor id) =
        l.filter fun j => (slotState s j).discardedFor id :=
      List.filter_congr fun j hj => by rw [discardSlot_other id s (ne_of_mem_of_not_mem hj hi)]
    rw [List.foldl_cons, ih hl, hothers, discardSlot_eq, List.filter_cons]
    split <;> rfl

theorem discardCount_eq (id : StationId) (s : State) :
    discardCount id s = ((List.finRange 16).filter fun i => (slotState s i).discardedFor id).length := by
  rw [← List.countP_eq_length_filter]
  refine List.countP_congr fun i _ => ?_
  cases slotState s i <;> simp [SlotState.discardedFor, SlotState.claims, SlotState.isSending]

theorem sendingFor_iff {s : State} {id : StationId} :
    sendingFor s id = true ↔ ∃ i d, slotState s i = .sending d ∧ d.station = id := by
  have hslot : ∀ st : SlotState, (st.isOf id && st.isSending) = true ↔ ∃ d, st = .sending d ∧ d.station = id := by
    intro st
    cases st <;> simp [SlotState.isOf, SlotState.isSending, SlotState.downlink]
  simp only [sendingFor, List.any_eq_true, hslot, List.mem_finRange, true_and]

/-- R59: the records of the station are settled, and the items of those that were GATHERING are offered. -/
theorem closureClaim_eq (id : StationId) (s : State) :
    closureClaim id s = (claimedRecords id s).foldl (fun t r => offerTelegram (itemOf r none true) t)
      { s with rpf.records := s.rpf.records.map fun r =>
          if r.station = id then { r with state := .settled } else r } := by
  simp only [closureClaim, Record.settle, beq_iff_eq]
  rfl

theorem slotState_closureClaim (id : StationId) (s : State) (j : Fin 16) :
    slotState (closureClaim id s) j = slotState s j := by
  obtain ⟨_, _, _, _, _, h⟩ := closureClaim_frame id s
  rw [h]
  rfl

/-- R20: the entry is freed, the records are closed, and the slots are discarded. -/
theorem dropStation_eq (i : Fin 64) (id : StationId) (s : State) :
    dropStation i id s = ((List.finRange 16).filter fun j => (slotState s j).discardedFor id).foldl discardAt
      (closureClaim id (setPlace i none s)) := by
  have hslots : ∀ j, slotState (closureClaim id (setPlace i none s)) j = slotState s j := fun j =>
    slotState_closureClaim id _ j
  simp only [dropStation, discardClaim, foldl_discardSlot id (List.nodup_finRange 16), hslots]

theorem reqDropStation_reserved {id : StationId} (s : State) (h : id.reserved = true) :
    reqDropStation (be24 id) s = refuse .badValue s := by
  simp only [reqDropStation, be24, id24_be24, h, if_true]

theorem reqDropStation_missing {id : StationId} {s : State} (h : id.reserved = false)
    (hl : lookup s.stab id = none) : reqDropStation (be24 id) s = refuse .notFound s := by
  simp only [reqDropStation, be24, id24_be24, h, hl, Bool.false_eq_true, if_false]

/-- R20, R178: DROP-STATION of a station that has an entry. -/
theorem reqDropStation_found {id : StationId} {s : State} {i : Fin 64} {e : Entry} (h : id.reserved = false)
    (hl : lookup s.stab id = some (i, e)) :
    reqDropStation (be24 id) s =
      if sendingFor s id then refuse .inFlight s
      else done [byteOf (claimedRecords id s).length, byteOf (discardCount id s)] (dropStation i id s) := by
  simp only [reqDropStation, be24, id24_be24, h, hl, Bool.false_eq_true, if_false]

theorem modeOf_undefined {m : Byte} (h : 2 < m.toNat) : modeOf m = none := by
  have hne : ∀ b : Byte, b.toNat ≤ 2 → m ≠ b := by
    rintro b hb rfl
    omega
  rw [modeOf, if_neg (hne 0x00 (by decide)), if_neg (hne 0x01 (by decide)), if_neg (hne 0x02 (by decide))]

theorem boolOf_undefined {b : Byte} (h : 1 < b.toNat) : boolOf b = none := by
  have hne : ∀ c : Byte, c.toNat ≤ 1 → b ≠ c := by
    rintro c hc rfl
    omega
  rw [boolOf, if_neg (hne 0x00 (by decide)), if_neg (hne 0x01 (by decide))]

/-- R17: PUT-STATION with a reserved ID or with settings out of range. -/
theorem reqPutStation_badSettings {id : StationId} {m : Byte} {g w : Word16} {re rd cs ww : Byte} {s : State}
    (h : ∀ mode reply, id.reserved = true ∨ (putSettings mode g w reply rd cs ww).valid ≠ true) :
    reqPutStation (putStationArgs id m g w re rd cs ww) s = refuse .badValue s := by
  cases hm : modeOf m with
  | none => exact reqPutStation_undefined (.inl hm)
  | some mode =>
    cases hre : boolOf re with
    | none => exact reqPutStation_undefined (.inr hre)
    | some reply =>
      rw [reqPutStation_read hm hre, if_neg]
      rw [Bool.and_eq_true, Bool.not_eq_true', ← Bool.not_eq_true, not_and_or, not_not]
      exact h mode reply

/-- R17: each of the values that PUT-STATION refuses. -/
theorem reqPutStation_refused {id : StationId} {m : Byte} {g w : Word16} {re rd cs ww : Byte} (s : State)
    (h : id = 0 ∨ id = 0xFFFFFF ∨ 2 < m.toNat ∨ g.toNat < 10 ∨ 2000 < g.toNat ∨ w.toNat < 100 ∨
      60000 < w.toNat ∨ w.toNat < g.toNat ∨ 1 < re.toNat ∨ rd = 0 ∨ 250 < rd.toNat ∨ 250 < cs.toNat ∨
      ww = 0 ∨ 100 < ww.toNat) :
    reqPutStation (putStationArgs id m g w re rd cs ww) s = refuse .badValue s := by
  have hzero : ∀ b : Byte, b = 0 ↔ b.toNat = 0 := fun b => BitVec.toNat_inj.symm
  by_cases hm : 2 < m.toNat
  · exact reqPutStation_undefined (.inl (modeOf_undefined hm))
  by_cases hre : 1 < re.toNat
  · exact reqPutStation_undefined (.inr (boolOf_undefined hre))
  refine reqPutStation_badSettings fun mode reply => ?_
  rw [reserved_iff, ne_eq, settings_valid_iff]
  rw [hzero rd, hzero ww] at h
  rcases h with hid | hid | hrange
  · exact .inl (.inl hid)
  · exact .inl (.inr hid)
  · right
    simp only [putSettings]
    omega

/-- Settles O47: DROP-STATION reads its station back, the refusals come in their order, and the slots discarded
are those that the claim finds; PUT-STATION's values out of range are refused before the table is looked at. -/
theorem dropStationClosesAndDiscards : Obligations.DropStationClosesAndDiscards := by
  constructor
  · intro tag id s h hopen gathering discards slots sends discard
    have hrefused : ∀ st, reqDropStation (be24 id) (counted s) = refuse st (counted s) →
        exec (.dropStation tag id) s = .next (refusedWith tag 0x31 st s) := fun st hr =>
      request_refused h hopen (by decide) (be24_length_le id) hr
    have hsends : sendingFor (counted s) id = true ↔ sends := by
      rw [sendingFor_iff]
      simp only [slotState_counted]
      rfl
    have hdiscards : discards = SlotState.discardedFor id := by
      funext st
      cases st <;> simp [discards, SlotState.discardedFor, SlotState.claims, SlotState.isSending]
    have hslots : ((List.finRange 16).filter fun j => (slotState (counted s) j).discardedFor id) = slots := by
      simp only [slotState_counted, slots, hdiscards]
    have hdiscard : discardAt = discard := rfl
    refine ⟨fun hid => ?_, fun h0 h1 => ⟨fun hl => ?_, fun hl hs => ?_, fun i e hl hs => ?_⟩⟩
    · exact hrefused _ (reqDropStation_reserved _ (reserved_iff.mpr hid))
    · exact hrefused _ (reqDropStation_missing (reserved_false h0 h1) (by rwa [counted_stab]))
    · obtain ⟨⟨i, e⟩, hl⟩ := Option.ne_none_iff_exists'.mp hl
      exact hrefused _ ((reqDropStation_found (i := i) (e := e) (reserved_false h0 h1) (by rwa [counted_stab])).trans
        (if_pos (hsends.mpr hs)))
    · have hgathering : claimedRecords id (counted s) = gathering := by
        rw [claimedRecords, counted_rpf]
      refine request_carriedOut h hopen (by decide) (be24_length_le id)
        ((reqDropStation_found (i := i) (e := e) (reserved_false h0 h1) (by rwa [counted_stab])).trans
          ((if_neg fun hsf => hs (hsends.mp hsf)).trans ?_))
      rw [discardCount_eq, dropStation_eq, hslots, hgathering, hdiscard, closureClaim_eq, setPlace_counted]
      rw [show claimedRecords id { counted s with stab.places := s.stab.places.set i none } = gathering from
        hgathering]
      obtain ⟨_, hc⟩ := counted_frame s
      rw [hc]
  · intro tag id m g w re rd cs ww s h hopen hbad
    exact request_refused h hopen (by decide) (putStationArgs_length ..) (reqPutStation_refused _ hbad)

end Sys2Proof.Machine

namespace Sys2Proof.Machine

/-! ## One receiver -/

@[simp] theorem rxState_setReceiver (ch : Channel) (r : Receiver) (s : State) :
    rxState (setReceiver ch r s) ch = r.state := by
  cases ch <;> rfl

@[simp] theorem rxState_setRxState (ch : Channel) (st : RxState) (s : State) :
    rxState (setRxState ch st s) ch = st := by
  cases ch <;> rfl

@[simp] theorem setRxState_setRxState (ch : Channel) (st st' : RxState) (s : State) :
    setRxState ch st (setRxState ch st' s) = setRxState ch st s := by
  cases ch <;> rfl

/-- A receiver that is put in the state it is in stays as it is. -/
theorem setRxState_same {ch : Channel} {st : RxState} {s : State} (h : rxState s ch = st) :
    setRxState ch st s = s := by
  subst h
  exact setReceiver_receiver ch s

theorem isEnabled_iff {st : RxState} : st.isEnabled = true ↔ st ≠ .disabled := by
  cases st <;> simp [RxState.isEnabled]

/-- R30–R32: a lost candidate or preamble. -/
theorem losePreamble_eq (ch : Channel) (s : State) :
    losePreamble ch s =
      setReceiver ch { state := .hunt none, counters := (receiver s ch).counters.losePreamble } s :=
  toHunt_countRx ch RxCounters.losePreamble s

/-- R32: a missing sync word. -/
theorem missSync_eq (ch : Channel) (s : State) :
    missSync ch s = setReceiver ch { state := .hunt none, counters := (receiver s ch).counters.missSync } s :=
  toHunt_countRx ch RxCounters.missSync s

/-- R41: an error in BODY at its receiver, before the alarm block counts it. -/
theorem bodyError_eq (ch : Channel) (e : BodyError) (s : State) :
    bodyError ch e s = reportReceiverError
      (setReceiver ch { state := .hunt none, counters := (receiver s ch).counters.error e } s) :=
  congrArg reportReceiverError (toHunt_countRx ch (fun c => c.error e) s)

/-! ## Events at a resting part -/

/-- An event takes its effect at the state it meets. -/
theorem event_congr {f g : State → State} {s : State} (h : f s = g s) : event f s = event g s := by
  unfold event; rw [h]

/-- An event that changes nothing at a resting part leaves it as it is. -/
theorem event_same {f : State → State} {s : State} (hs : Resting s) (h : f s = s) : event f s = .next s := by
  rw [event_running hs.1, h, settle_of_settled hs.2 rfl rfl rfl]

/-- An event that changes a receiver alone, at a resting part. -/
theorem event_setReceiver {f : State → State} {ch : Channel} {r : Receiver} {s : State} (hs : Resting s)
    (h : f s = setReceiver ch r s) : event f s = .next (setReceiver ch r s) := by
  rw [event_running hs.1, h, settle_of_settled hs.2 (by simp) (by simp) (by simp)]

/-! ## PREAMBLE_LOST and SYNC_MISSING -/

/-- A receiver in HUNT, PREAMBLE or SYNC. -/
def RxState.hunting : RxState → Bool
  | .hunt _ | .preamble _ _ | .sync _ _ _ _ => true
  | .disabled | .body _ _ _ _ _ => false

/-- R30–R32: PREAMBLE_LOST acts at a receiver that hunts. -/
theorem exec_preambleLost (ch : Channel) (s : State) :
    exec (.preambleLost ch) s =
      event (fun s => if (rxState s ch).hunting then losePreamble ch s else s) s := by
  show execPreambleLost ch s = _
  unfold execPreambleLost
  refine event_congr ?_
  cases rxState s ch <;> rfl

/-- R32: SYNC_MISSING acts at a receiver that hunts. -/
theorem exec_syncMissing (ch : Channel) (s : State) :
    exec (.syncMissing ch) s = event (fun s => if (rxState s ch).hunting then missSync ch s else s) s := by
  show execSyncMissing ch s = _
  unfold execSyncMissing
  refine event_congr ?_
  cases rxState s ch <;> rfl

/-- Settles O7: both commands act exactly at a receiver that hunts, on that receiver alone. -/
theorem lostPreambleAndMissingSync : Obligations.LostPreambleAndMissingSync := by
  intro ch s hs k
  rw [exec_preambleLost, exec_syncMissing]
  constructor
  · intro h
    have hhunting : (rxState s ch).hunting = true := by
      rcases h with ⟨c, h⟩ | ⟨t, n, h⟩ | ⟨t, w, fs, n, h⟩ <;> rw [h] <;> rfl
    exact ⟨event_setReceiver hs ((if_pos hhunting).trans (losePreamble_eq ch s)),
      event_setReceiver hs ((if_pos hhunting).trans (missSync_eq ch s))⟩
  · intro h
    have hdeaf : ¬ (rxState s ch).hunting = true := by
      rcases h with h | ⟨t, bs, cur, n, reg, h⟩ <;> rw [h] <;> nofun
    exact ⟨event_same hs (if_neg hdeaf), event_same hs (if_neg hdeaf)⟩

/-! ## RECEIVER_ERROR -/

/-- R38, R41: RECEIVER_ERROR acts at an enabled receiver. -/
theorem exec_receiverError (ch : Channel) (e : BodyError) (s : State) :
    exec (.receiverError ch e) s =
      event (fun s => if (rxState s ch).isEnabled then bodyError ch e s else s) s := rfl

theorem exec_receiverError_enabled {ch : Channel} {e : BodyError} {s : State} (h : rxState s ch ≠ .disabled) :
    exec (.receiverError ch e) s = event (bodyError ch e) s :=
  (exec_receiverError ch e s).trans (event_congr (if_pos (isEnabled_iff.mpr h)))

/-- R142: the error that takes the burst count to its limit. -/
theorem reportReceiverError_raises {s : State} (hlt : s.alm.burstCount < 255)
    (hlimit : s.alm.burstCount + 1 = s.alm.errorBurstLimit) :
    reportReceiverError s = raise .rxErrorBurst { s with alm.burstCount := bumpByte s.alm.burstCount } :=
  if_pos ⟨hlt, hlimit⟩

/-- R142: every other error counts alone. -/
theorem reportReceiverError_counts {s : State}
    (h : ¬ (s.alm.burstCount < 255 ∧ s.alm.burstCount + 1 = s.alm.errorBurstLimit)) :
    reportReceiverError s = { s with alm.burstCount := bumpByte s.alm.burstCount } :=
  if_neg h

/-- Settles O8: the error reaches its receiver and then the alarm block, whose count decides the raise. -/
theorem receiverErrorCountsAndBursts : Obligations.ReceiverErrorCountsAndBursts := by
  intro ch e s hs k k' t u
  have hk : (receiver s ch).counters.error e = k' := by cases e <;> rfl
  have halm : t.alm = s.alm := setReceiver_alm ch _ s
  have hu : { t with alm.burstCount := bumpByte t.alm.burstCount } = u := by simp only [u, halm, bumpByte]
  refine ⟨fun hd => ?_, fun he hlt hlimit => ?_, fun he hno => ?_⟩
  · rw [exec_receiverError, event_running hs, hd]
    rfl
  · rw [exec_receiverError_enabled he, event_running hs, bodyError_eq, hk,
      reportReceiverError_raises (by rwa [halm]) (by rwa [halm]), hu]
  · rw [exec_receiverError_enabled he, event_running hs, bodyError_eq, hk,
      reportReceiverError_counts (by rwa [halm]), hu]

end Sys2Proof.Machine

namespace Sys2Proof.Machine

/-! ## Decided cells -/

/-- The cell reference moves to an observed place (R26). -/
def Tracking.refAt (t : Tracking) (time : Nat) : Tracking := { t with cellRef := time, progress := .fresh }

/-- A cell of this class, its reference edge at this place, joins what a receiver holds (R26, R37). -/
def Tracking.cell (t : Tracking) (soft : Bool) (time : Nat) : Tracking :=
  { t.refAt time with softCells := t.softCells + if soft then 1 else 0 }

/-- What a receiver holds after its first cell (R25, R30). -/
def Tracking.first (p : RxProfile) (soft : Bool) (time : Nat) : Tracking :=
  { snap := p.snapshot, cellRef := time, progress := .fresh, softCells := if soft then 1 else 0 }

/-- R32: the sync window after one more bit. -/
def windowAfter (w : Word16) (bit : Bool) : Word16 := (w <<< 1) ||| (if bit then 1 else 0)

/-- R32: the sync count after one more bit; it runs from the first 1 bit. -/
def syncCountAfter (n : Nat) (bit : Bool) : Nat := if n = 0 then (if bit then 1 else 0) else n + 1

theorem exec_decided (ch : Channel) (bit soft : Bool) (time : Nat) (s : State) :
    exec (.cellDecoded ch (.decided bit soft time)) s = event (decodedCell ch bit soft time) s := rfl

section
variable {ch : Channel} {bit soft : Bool} {time : Nat} {s : State}

theorem decodedCell_disabled (h : rxState s ch = .disabled) : decodedCell ch bit soft time s = s := by
  simp only [decodedCell, h]

/-- R30: the candidate cell. -/
theorem decodedCell_hunt {c : Option Candidate} (h : rxState s ch = .hunt c) :
    decodedCell ch bit soft time s =
      setRxState ch (if bit then .hunt none else .preamble (.first s.profile soft time) 1) s := by
  simp only [decodedCell, h]
  cases bit <;> rfl

/-- R31: a cell of the preamble. -/
theorem decodedCell_preamble {t : Tracking} {n : Nat} (h : rxState s ch = .preamble t n) :
    decodedCell ch bit soft time s =
      if bit then losePreamble ch s
      else setRxState ch
        (if t.snap.preambleMin ≤ n + 1 then .sync (t.cell soft time) 0 (List.replicate 16 false) 0
          else .preamble (t.cell soft time) (n + 1)) s := by
  simp only [decodedCell, h]
  cases bit
  · exact (apply_ite (setRxState ch · s) _ _ _).symm
  · rfl

/-- R32: a cell of the sync word. -/
theorem decodedCell_sync {t : Tracking} {w : Word16} {fs : List Bool} {n : Nat} (h : rxState s ch = .sync t w fs n) :
    decodedCell ch bit soft time s =
      if windowAfter w bit = t.snap.sync then
        setRxState ch (.body
          { t.refAt time with softCells := t.softCells + (fs.tail ++ [soft]).count true } [] 0 0 t.snap.checkInit) s
      else if 32 ≤ syncCountAfter n bit then missSync ch s
      else setRxState ch (.sync (t.refAt time) (windowAfter w bit) (fs.tail ++ [soft]) (syncCountAfter n bit)) s := by
  simp only [decodedCell, h]
  rfl

/-- R33: a cell in BODY. -/
theorem decodedCell_body {t : Tracking} {bytes : List Byte} {cur : Byte} {nbits : Nat} {reg : Word16}
    (h : rxState s ch = .body t bytes cur nbits reg) :
    decodedCell ch bit soft time s = bodyCell ch (t.cell soft time) bytes cur nbits reg bit s := by
  simp only [decodedCell, h]
  rfl

end

/-- Settles O9: in each receive state the cell's effect is a change of its receiver alone. -/
theorem cellsOfPreambleAndSync : Obligations.CellsOfPreambleAndSync := by
  intro ch bit soft time s hs k one cmd
  have hset : ∀ st, decodedCell ch bit soft time s = setRxState ch st s →
      exec cmd s = .next (setReceiver ch { state := st, counters := k } s) := fun st h => event_setReceiver hs h
  refine ⟨fun c h => ?_, fun t n h => ?_, fun t w fs n h => ?_⟩
  · have hcell := decodedCell_hunt (bit := bit) (soft := soft) (time := time) h
    exact ⟨fun hb => hset _ (by rw [hcell, if_pos hb]),
      fun hb => hset _ (by rw [hcell, if_neg (Bool.eq_false_iff.mp hb)]; rfl)⟩
  · intro t'
    have hcell := decodedCell_preamble (bit := bit) (soft := soft) (time := time) h
    refine ⟨fun hb => ?_, fun hb hmin => hset _ ?_, fun hb hmin => hset _ ?_⟩
    · rw [if_pos hb] at hcell
      exact event_setReceiver hs (hcell.trans (losePreamble_eq ch s))
    · rw [hcell, if_neg (Bool.eq_false_iff.mp hb), if_neg (Nat.not_le.mpr hmin)]
      rfl
    · rw [hcell, if_neg (Bool.eq_false_iff.mp hb), if_pos hmin]
      rfl
  · intro w' fs' n'
    have hcell := decodedCell_sync (bit := bit) (soft := soft) (time := time) h
    refine ⟨fun hw => hset _ ?_, fun hw hn => ?_, fun hw hn => hset _ ?_⟩
    · exact hcell.trans (if_pos hw)
    · exact event_setReceiver hs (((hcell.trans (if_neg hw)).trans (if_pos hn)).trans (missSync_eq ch s))
    · exact (hcell.trans (if_neg hw)).trans (if_neg (Nat.not_le.mpr hn))

/-! ## Windows of the line codes -/

/-- R26: an edge outside the clean band is soft. -/
theorem softEdge_eq (tb : TimeBase) (us lo hi d : Nat) :
    softEdge tb us lo hi d = decide (d < tb.place24 us lo ∨ tb.place24 us hi < d) := by
  simp only [softEdge, Bool.decide_or, Bool.not_and, ← decide_not, Nat.not_le]

section
variable (tb : TimeBase) (us ref d : Nat) (rising soft : Bool)

/-- R27: the windows of MANCHESTER, for an edge `d` periods after the reference. -/
theorem manchesterEdge_at (p : CellProgress) :
    manchesterEdge tb us ref p rising (ref + d) =
      if d < tb.place24 us 6 then .violation
      else if d < tb.place24 us 18 then (if p = .boundarySeen then .violation else .waiting .boundarySeen)
      else if d ≤ tb.place24 us 30 then
        .cell rising (decide (d < tb.place24 us 21 ∨ tb.place24 us 27 < d)) (ref + d)
      else .violation := by
  simp only [manchesterEdge, Nat.add_sub_cancel_left, softEdge_eq]
  cases p <;> rfl

/-- R27: the boundary window, which takes one edge. -/
theorem manchesterEdge_boundary (p : CellProgress) (hl : tb.place24 us 6 ≤ d) (hh : d < tb.place24 us 18) :
    manchesterEdge tb us ref p rising (ref + d) =
      if p = .boundarySeen then .violation else .waiting .boundarySeen := by
  rw [manchesterEdge_at, if_neg (Nat.not_lt.mpr hl), if_pos hh]

/-- R27: the middle window. -/
theorem manchesterEdge_middle (p : CellProgress) (hl : tb.place24 us 18 ≤ d) (hh : d ≤ tb.place24 us 30) :
    manchesterEdge tb us ref p rising (ref + d) =
      .cell rising (decide (d < tb.place24 us 21 ∨ tb.place24 us 27 < d)) (ref + d) := by
  have h18 : tb.place24 us 6 ≤ tb.place24 us 18 := place24_mono tb us (by decide)
  rw [manchesterEdge_at, if_neg (by omega), if_neg (by omega), if_pos hh]

/-- R27: after the middle window. -/
theorem manchesterEdge_late (p : CellProgress) (h : tb.place24 us 30 < d) :
    manchesterEdge tb us ref p rising (ref + d) = .violation := by
  have h18 : tb.place24 us 6 ≤ tb.place24 us 18 := place24_mono tb us (by decide)
  have h30 : tb.place24 us 18 ≤ tb.place24 us 30 := place24_mono tb us (by decide)
  rw [manchesterEdge_at, if_neg (by omega), if_neg (by omega), if_neg (by omega)]

/-- R28: the middle window of BIPHASE_MARK. -/
theorem biphaseEdge_started :
    biphaseEdge tb us ref (.started ref soft) (ref + d) =
      if d < tb.place24 us 6 then .violation
      else if d ≤ tb.place24 us 18 then
        .cell true (soft || decide (d < tb.place24 us 9 ∨ tb.place24 us 15 < d)) ref
      else .violation := by
  simp only [biphaseEdge, Nat.add_sub_cancel_left, softEdge_eq]

/-- R28: the start window of BIPHASE_MARK. -/
theorem biphaseEdge_fresh :
    biphaseEdge tb us ref .fresh (ref + d) =
      if d ≤ tb.place24 us 18 then .violation
      else if d ≤ tb.place24 us 30 then
        .waiting (.started (ref + d) (decide (d < tb.place24 us 21 ∨ tb.place24 us 27 < d)))
      else .violation := by
  simp only [biphaseEdge, Nat.add_sub_cancel_left, softEdge_eq]

/-- R29: the end of a mark of PULSE_WIDTH. -/
theorem pulseEdge_falling :
    pulseEdge tb us ref (.started ref soft) false (ref + d) =
      if d < tb.place24 us 2 then .violation
      else if d < tb.place24 us 12 then
        .cell false (soft || decide (d < tb.place24 us 5 ∨ tb.place24 us 11 < d)) ref
      else if d ≤ tb.place24 us 22 then
        .cell true (soft || decide (d < tb.place24 us 13 ∨ tb.place24 us 19 < d)) ref
      else .violation := by
  simp only [pulseEdge, Nat.add_sub_cancel_left, softEdge_eq]
  rfl

/-- R29: the start of a mark of PULSE_WIDTH. -/
theorem pulseEdge_rising :
    pulseEdge tb us ref .fresh true (ref + d) =
      if d < tb.place24 us 18 then .violation
      else if d ≤ tb.place24 us 30 then
        .waiting (.started (ref + d) (decide (d < tb.place24 us 21 ∨ tb.place24 us 27 < d)))
      else .violation := by
  simp only [pulseEdge, Nat.add_sub_cancel_left, softEdge_eq]
  rfl

/-- R26–R29: a cell that no edge has started is missing at the end of its window, whatever the code. -/
theorem quietVerdict_unstarted (code : LineCode) {p : CellProgress} (hp : p = .fresh ∨ p = .boundarySeen) :
    quietVerdict tb code us ref p (ref + d) = if tb.place24 us 30 ≤ d then .violation else .waiting p := by
  rcases hp with rfl | rfl <;> cases code <;> simp only [quietVerdict, Nat.add_sub_cancel_left]

/-- R28: a started cell of BIPHASE_MARK is a 0 at the end of its middle window. -/
theorem quietVerdict_biphase_started :
    quietVerdict tb .biphaseMark us ref (.started ref soft) (ref + d) =
      if tb.place24 us 18 ≤ d then .cell false soft ref else .waiting (.started ref soft) := by
  simp only [quietVerdict, Nat.add_sub_cancel_left]

/-- R29: a mark of PULSE_WIDTH that does not end is a violation. -/
theorem quietVerdict_pulse_started :
    quietVerdict tb .pulseWidth us ref (.started ref soft) (ref + d) =
      if tb.place24 us 22 ≤ d then .violation else .waiting (.started ref soft) := by
  simp only [quietVerdict, Nat.add_sub_cancel_left]

end

/-- R195: a place is within half a period of its 24ths, and the choice is free where two periods are equally
near. -/
theorem place24_rounded (tb : TimeBase) (us k : Nat) :
    (48 * tb.place24 us k ≤ 2 * (us * tb.refclkMHz * k) + 24 ∧
      2 * (us * tb.refclkMHz * k) ≤ 48 * tb.place24 us k + 24) ∧
    ∀ m, 2 * (us * tb.refclkMHz * k) = 48 * m + 24 →
      tb.place24 us k = if Config.tieRoundsUp (us * tb.refclkMHz * k) 24 then m + 1 else m := by
  obtain ⟨hlow, hhigh⟩ := nearest_near (us * tb.refclkMHz * k) (den := 24) (by decide)
  refine ⟨?_, fun m hm => nearest_tie m (by decide) (by omega)⟩
  unfold TimeBase.place24
  omega

/-- Settles O10: each code's table is its equation, read in the band that the hypotheses give; the places come in
the order of their 24ths. -/
theorem windowsOfTheLineCodes : Obligations.WindowsOfTheLineCodes := by
  intro tb us ref d soft rising
  dsimp only
  have h12 : tb.place24 us 2 ≤ tb.place24 us 12 := place24_mono tb us (by decide)
  have h22 : tb.place24 us 12 ≤ tb.place24 us 22 := place24_mono tb us (by decide)
  have h18 : tb.place24 us 6 ≤ tb.place24 us 18 := place24_mono tb us (by decide)
  have h30 : tb.place24 us 18 ≤ tb.place24 us 30 := place24_mono tb us (by decide)
  have hquiet := fun code p h => quietVerdict_unstarted tb us ref d code (p := p) h
  refine ⟨fun k => (place24_rounded tb us k).1, fun k => (place24_rounded tb us k).2, ?bands⟩
  simp only [biphaseEdge_started, biphaseEdge_fresh, pulseEdge_falling, pulseEdge_rising,
    quietVerdict_biphase_started, quietVerdict_pulse_started, hquiet _ .fresh (.inl rfl)]
  refine ⟨?m1, ?m2, ?m3, ?m4, ?b1, ?b2, ?b3, ?b4, ?b5, rfl, ?p1, ?p2, ?p3, ?p4, rfl, ?p5, ?p6, ?p7, ?q1, ?q2, ?q3,
    ?q4, ?q5, ?q6, ?q7⟩
  case m1 => exact fun h => by rw [manchesterEdge_at, if_pos h]
  case m2 =>
    exact fun hl hh => ⟨manchesterEdge_boundary tb us ref d rising .fresh hl hh,
      manchesterEdge_boundary tb us ref d rising .boundarySeen hl hh⟩
  case m3 =>
    exact fun hl hh => ⟨manchesterEdge_middle tb us ref d rising .fresh hl hh,
      manchesterEdge_middle tb us ref d rising .boundarySeen hl hh⟩
  case m4 =>
    exact fun h => ⟨manchesterEdge_late tb us ref d rising .fresh h,
      manchesterEdge_late tb us ref d rising .boundarySeen h⟩
  case b1 => exact fun h => if_pos h
  case b2 => exact fun hl hh => by rw [if_neg (by omega), if_pos hh]
  case b3 => exact fun h => if_pos h
  case b4 => exact fun hl hh => by rw [if_neg (by omega), if_pos hh]
  case b5 => exact fun h => by rw [if_neg (by omega), if_neg (by omega)]
  case p1 => exact fun h => if_pos h
  case p2 => exact fun hl hh => by rw [if_neg (by omega), if_pos hh]
  case p3 => exact fun hl hh => by rw [if_neg (by omega), if_neg (by omega), if_pos hh]
  case p4 => exact fun h => by rw [if_neg (by omega), if_neg (by omega), if_neg (by omega)]
  case p5 => exact fun h => if_pos h
  case p6 => exact fun hl hh => by rw [if_neg (by omega), if_pos hh]
  case p7 => exact fun h => by rw [if_neg (by omega), if_neg (by omega)]
  case q1 => exact fun p hp => by rw [hquiet _ p hp]; exact ⟨fun h => if_neg (Nat.not_le.mpr h), fun h => if_pos h⟩
  case q2 => exact fun h => ⟨if_neg (Nat.not_le.mpr h), if_neg (Nat.not_le.mpr h)⟩
  case q3 => exact fun h => ⟨if_pos h, if_pos h⟩
  case q4 => exact fun h => if_neg (Nat.not_le.mpr h)
  case q5 => exact fun h => if_pos h
  case q6 => exact fun h => if_neg (Nat.not_le.mpr h)
  case q7 => exact fun h => if_pos h

end Sys2Proof.Machine

namespace Sys2Proof.Machine

/-! ## Events that bring the part no request -/

/-- The held requests, the response queue, the line and the request engine are the same in both states, and so is
what lets the part take events. -/
structure KeepsRequests (s t : State) : Prop where
  held : t.trk.held = s.trk.held
  responses : t.trk.responses = s.trk.responses
  line : t.trk.line = s.trk.line
  engine : t.mre = s.mre
  clock : t.tbs = s.tbs
  hold : t.inReset = s.inReset

theorem KeepsRequests.refl (s : State) : KeepsRequests s s := ⟨rfl, rfl, rfl, rfl, rfl, rfl⟩

theorem KeepsRequests.trans {s t u : State} (h : KeepsRequests s t) (g : KeepsRequests t u) : KeepsRequests s u :=
  ⟨g.held.trans h.held, g.responses.trans h.responses, g.line.trans h.line, g.engine.trans h.engine,
    g.clock.trans h.clock, g.hold.trans h.hold⟩

theorem setReceiver_keepsRequests (ch : Channel) (r : Receiver) (s : State) :
    KeepsRequests s (setReceiver ch r s) := by
  constructor <;> simp

/-- R47: handling a copy brings no request. -/
theorem CopyFrame.keepsRequests {s t : State} (h : CopyFrame s t) : KeepsRequests s t := by
  obtain ⟨_, _, _, _, _, _, _, _, rfl⟩ := h
  exact ⟨rfl, rfl, rfl, rfl, rfl, rfl⟩

/-- After an event that brings no request, its closing is the sender's decision: a settled part takes in none, and
where its line rests there is no response to send. -/
theorem settle_of_keepsRequests {s t : State} (hs : Settled s) (h : KeepsRequests s t) :
    settle t = senderDecides t := by
  obtain ⟨hno, hline⟩ := hs
  have hno' : NoIntake t := by
    unfold NoIntake
    rw [h.held, h.engine, h.responses]
    exact hno
  have hafter : NoIntake (senderDecides t) := by
    cases hl : t.trk.line with
    | some f => rwa [senderDecides_of_busy hl]
    | none =>
      rw [senderDecides_of_idle hl]
      have hresponses : t.trk.responses = [] := by
        obtain ⟨hr, -, -⟩ := hline.resolve_left fun hb => hb (h.line ▸ hl)
        rw [h.responses, hr]
      have hframe : (takeFrame t).trk.held = t.trk.held ∧ (takeFrame t).mre = t.mre := by
        obtain ⟨_, _, _, _, _, _, _, _, _, _, _, _, hf⟩ := takeFrame_frame t
        rw [hf]
        exact ⟨rfl, rfl⟩
      rcases hno' with hheld | hmre | hfull
      · exact .inl (hframe.1.trans hheld)
      · exact .inr (.inl (hframe.2 ▸ hmre))
      · rw [hresponses] at hfull
        cases hfull
  unfold settle
  rw [intakeAll_of_noIntake hno', intakeAll_of_noIntake hafter]

/-! ## The seven counters of copies -/

/-- The seven filter counters of which each copy advances one (R65). -/
def FilterCounters.copyCounts (k : FilterCounters) : List Nat :=
  [k.blocked, k.unknownDropped, k.duplicates, k.conflicts, k.lateRepeats, k.stale, k.accepted]

/-- One of the seven counters has advanced, and the others stand. -/
def CountsOne (s t : State) : Prop :=
  ∃ k, k < 7 ∧ t.rpf.counters.copyCounts = s.rpf.counters.copyCounts.modify k bump

/-- None of the seven counters has moved. -/
def CountsNone (s t : State) : Prop := t.rpf.counters.copyCounts = s.rpf.counters.copyCounts

theorem CountsNone.trans_one {s t u : State} (h : CountsNone s t) (g : CountsOne t u) : CountsOne s u := by
  obtain ⟨k, hk, hu⟩ := g
  exact ⟨k, hk, by rw [hu, h]⟩

theorem CountsOne.trans_none {s t u : State} (h : CountsOne s t) (g : CountsNone t u) : CountsOne s u := by
  obtain ⟨k, hk, ht⟩ := h
  exact ⟨k, hk, by rw [g, ht]⟩

theorem raise_rpf (c : Cause) (s : State) : (raise c s).rpf = s.rpf := by rw [raise_frame]

theorem offerTelegram_countsNone (t : TelegramItem) (s : State) : CountsNone s (offerTelegram t s) := by
  unfold CountsNone; rw [offerTelegram_frame]; rfl

/-- R53: making a place counts an eviction. -/
theorem makePlace_countsNone (s : State) : CountsNone s (makePlace s) := by
  unfold CountsNone makePlace
  dsimp only
  split
  · rw [raise_rpf]; rfl
  · split
    · rfl
    · rename_i r _ _
      obtain ⟨_, _, _, _, _, _, h⟩ := closeRecord_frame r true s
      rw [raise_rpf, h]
      rfl

theorem makeRoom_countsNone (s : State) : CountsNone s (makeRoom s) := by
  unfold makeRoom
  split
  · exact makePlace_countsNone s
  · rfl

theorem produceNow_countsNone (r : Record) (s : State) : CountsNone s (produceNow r s) := by
  unfold produceNow
  split
  · rfl
  · exact offerTelegram_countsNone _ s

theorem notifyStore_countsNone (n : FirstCopy) (s : State) : CountsNone s (notifyStore n s) := by
  obtain ⟨_, _, _, _, _, _, h⟩ := notifyStore_frame n s
  unfold CountsNone; rw [h]

/-- R10, R13: a learn counts itself or its failure. -/
theorem learn_countsNone (id : StationId) (s : State) : CountsNone s (learn id s).1 := by
  unfold learn CountsNone
  split
  · rfl
  · dsimp only; rw [raise_rpf]; rfl

/-- R51: acceptance advances accepted. -/
theorem accept_countsOne (c : Copy) (check : Word16) (e : Option Entry) (s : State) :
    CountsOne s (accept c check e s) := by
  have haccepted : CountsOne s { s with rpf.counters.accepted := bump s.rpf.counters.accepted } :=
    ⟨6, by decide, rfl⟩
  rw [accept_eq]
  dsimp only
  have hadded := (haccepted.trans_none (makeRoom_countsNone _)).trans_none
    ((produceNow_countsNone (newRecord c check e s.stab) (addRecord (newRecord c check e s.stab) _)))
  split
  · exact hadded.trans_none (notifyStore_countsNone _ _)
  · exact hadded

/-- R50: a judged copy advances accepted, late repeats or stale. -/
theorem takeJudged_countsOne (c : Copy) (check : Word16) (i : Fin 64) (e : Entry) (s : State) :
    CountsOne s (takeJudged c check i e s) := by
  unfold takeJudged
  split
  · exact accept_countsOne c check _ (setPlace i _ s)
  · exact ⟨4, by decide, rfl⟩
  · exact ⟨5, by decide, rfl⟩

theorem afterLookup_countsOne (c : Copy) (e : Option (Fin 64 × Entry)) (s : State) :
    CountsOne s (afterLookup c e s) := by
  unfold afterLookup
  dsimp only
  split
  · split
    · exact ⟨2, by decide, by rw [takeDuplicate_eq]; rfl⟩
    · exact ⟨3, by decide, rfl⟩
  · split
    · exact takeJudged_countsOne c _ _ _ s
    · exact accept_countsOne c _ none s

/-- R47, R65: the handling of a copy advances one of the seven counters. -/
theorem handleCopy_countsOne (c : Copy) (s : State) : CountsOne s (handleCopy c s) := by
  unfold handleCopy
  split
  · split
    · exact ⟨0, by decide, rfl⟩
    all_goals exact afterLookup_countsOne c _ s
  · split
    · exact ⟨1, by decide, rfl⟩
    · exact afterLookup_countsOne c none s
    · exact (learn_countsNone c.station s).trans_one (afterLookup_countsOne c _ _)

/-- Below saturation a count advances by one. -/
theorem bump_of_lt {n : Nat} (h : n < 65535) : bump n = n + 1 := if_pos h

theorem sum_modify_bump {l : List Nat} {k : Nat} (hk : k < l.length) (h : ∀ n ∈ l, n < 65535) :
    (l.modify k bump).sum = l.sum + 1 := by
  induction l generalizing k with
  | nil => cases hk
  | cons x xs ih =>
    cases k with
    | zero => simp [bump_of_lt (h x (by simp))]; omega
    | succ k =>
      have := ih (Nat.lt_of_succ_lt_succ hk) fun n hn => h n (List.mem_cons_of_mem x hn)
      simp only [List.modify_succ_cons, List.sum_cons, this]
      omega

/-- A counter of a list whose member `k` has advanced. -/
theorem getElem?_modify_bump {l : List Nat} (k n : Nat) (h : ∀ x ∈ l, x < 65535) :
    (l.modify k bump)[n]? = l[n]?.map fun x => if n = k then x + 1 else x := by
  rw [List.getElem?_modify]
  cases hx : l[n]? with
  | none => rfl
  | some x =>
    have hbump := bump_of_lt (h x (List.mem_of_getElem? hx))
    simp [hbump, eq_comm]

/-- Settles O20: the handling counts the copy once, the receiver has counted it before, and the closing of the
event takes in no request that could clear a count. -/
theorem everyCopyIsCountedOnce : Obligations.EveryCopyIsCountedOnce := by
  intro c s t h hs ht seven hsmall hdelivered
  rw [exec_copy h] at ht
  have hframe : CopyFrame (handed c s) (handleCopy c (handed c s)) := handleCopy_frame c _
  have hkeeps : KeepsRequests s (handleCopy c (handed c s)) :=
    (setReceiver_keepsRequests _ _ s).trans hframe.keepsRequests
  rw [settle_of_keepsRequests hs hkeeps] at ht
  obtain ⟨_, _, _, _, _, _, _, _, _, _, _, _, hsent⟩ := senderDecides_frame (handleCopy c (handed c s))
  have hcounts : CountsOne s t := by
    obtain ⟨k, hk, hcount⟩ := handleCopy_countsOne c (handed c s)
    refine ⟨k, hk, ?_⟩
    rw [← Host.Outcome.next.inj ht, hsent]
    simpa only [handed_rpf] using hcount
  have hreceiver : receiver t c.channel = receiver (handed c s) c.channel := by
    obtain ⟨_, _, _, _, _, _, _, _, hcopy⟩ := hframe
    rw [← Host.Outcome.next.inj ht, hsent, hcopy]
    rfl
  obtain ⟨k, hk, hcount⟩ := hcounts
  refine ⟨?_, ?_, k, hk, fun n _ => ?_⟩
  · exact (congrArg List.sum hcount).trans (sum_modify_bump hk hsmall)
  · rw [hreceiver]
    unfold handed
    rw [receiver_setReceiver]
    exact bump_of_lt hdelivered
  · exact (congrArg (·[n]?) hcount).trans (getElem?_modify_bump k n hsmall)

end Sys2Proof.Machine

namespace Sys2Proof.Machine

/-! ## The part after an event that brings no request -/

/-- R162: a sender that leaves the line idle has nothing to send. -/
theorem nothingToSend_of_idle {s : State} (h : (takeFrame s).trk.line = none) : NothingToSend s := by
  have hstream : streamEligible s = true → (sendStream s).trk.line ≠ none := by
    intro he
    unfold sendStream
    split
    · exact absurd ‹_› (streamSend_of_eligible he)
    · exact nofun
  have hno : streamEligible s = false := by
    by_contra he
    rw [Bool.not_eq_false] at he
    refine absurd h ?_
    unfold takeFrame
    split
    · exact hstream he
    · split
      · exact nofun
      · split
        · exact nofun
        · exact hstream he
  unfold takeFrame at h
  rw [hno] at h
  simp only [Bool.false_and, Bool.false_eq_true, if_false] at h
  split at h
  · cases h
  · split at h
    · cases h
    · exact ⟨‹_›, ‹_›, hno⟩

/-- A settled part is settled again after the closing of an event that brings no request. -/
theorem settled_settle {s t : State} (hs : Settled s) (h : KeepsRequests s t) : Settled (settle t) := by
  have hno : NoIntake (settle t) := intakeAll_noIntake _
  refine ⟨hno, ?_⟩
  rw [settle_of_keepsRequests hs h]
  cases hl : t.trk.line with
  | some f => rw [senderDecides_of_busy hl, hl]; exact .inl nofun
  | none =>
    rw [senderDecides_of_idle hl]
    rcases takeFrame_sends t with hline | hsame
    · exact .inl hline
    · rw [hsame]
      exact .inr (nothingToSend_of_idle (by rw [hsame, hl]))

/-- What lets the part take events is what it was. -/
theorem KeepsRequests.running {s t : State} (h : KeepsRequests s t) (hs : Running s) : Running t := by
  simpa only [Running, h.clock, h.hold] using hs

/-- The sender leaves the receivers, their profile, the clock and the hold in reset as they are. -/
theorem senderDecides_receivers (s : State) :
    (senderDecides s).fra = s.fra ∧ (senderDecides s).frb = s.frb ∧ (senderDecides s).profile = s.profile ∧
      (senderDecides s).tbs = s.tbs ∧ (senderDecides s).inReset = s.inReset := by
  obtain ⟨_, _, _, _, _, _, _, _, _, _, _, _, h⟩ := senderDecides_frame s
  rw [h]
  exact ⟨rfl, rfl, rfl, rfl, rfl⟩

/-- R120: a stream frame does not depend on a receiver. -/
theorem streamSend_setReceiver (ch : Channel) (r : Receiver) (s : State) :
    streamSend (setReceiver ch r s) = (streamSend s).map fun x => (x.1, setReceiver ch r x.2) := by
  unfold streamSend
  rw [setReceiver_dst]
  cases s.dst.window.find? SentItem.resendPending with
  | some w => simp only [Option.map_some, startTimer_eq]; cases ch <;> rfl
  | none =>
    cases s.dst.waiting with
    | nil => rfl
    | cons it rest => simp only [Option.map_some, startTimer_eq]; cases ch <;> rfl

theorem sendStream_setReceiver (ch : Channel) (r : Receiver) (s : State) :
    sendStream (setReceiver ch r s) = setReceiver ch r (sendStream s) := by
  unfold sendStream
  rw [streamSend_setReceiver]
  cases streamSend s with
  | none => rfl
  | some x => cases ch <;> rfl

/-- R162: the sender's choice does not depend on a receiver. -/
theorem takeFrame_setReceiver (ch : Channel) (r : Receiver) (s : State) :
    takeFrame (setReceiver ch r s) = setReceiver ch r (takeFrame s) := by
  have heligible : streamEligible (setReceiver ch r s) = streamEligible s := by cases ch <;> rfl
  have hnotice : lowestNotice (setReceiver ch r s) = lowestNotice s := by cases ch <;> rfl
  unfold takeFrame
  rw [heligible, hnotice, setReceiver_trk, sendStream_setReceiver]
  cases streamEligible s && decide (3 ≤ s.trk.streamWait) with
  | true => rfl
  | false =>
    cases s.trk.responses with
    | cons q rest => cases ch <;> rfl
    | nil =>
      cases lowestNotice s with
      | some c => cases ch <;> rfl
      | none => exact (apply_ite (setReceiver ch r) _ _ _).symm

/-- R161: the sender's decision and a change of a receiver come to the same in either order. -/
theorem senderDecides_setReceiver (ch : Channel) (r : Receiver) (s : State) :
    senderDecides (setReceiver ch r s) = setReceiver ch r (senderDecides s) := by
  cases hl : s.trk.line with
  | some f => rw [senderDecides_of_busy hl, senderDecides_of_busy (f := f) (by rw [setReceiver_trk, hl])]
  | none =>
    rw [senderDecides_of_idle hl, senderDecides_of_idle (by rw [setReceiver_trk, hl]), takeFrame_setReceiver]

theorem senderDecides_setRxState (ch : Channel) (st : RxState) (s : State) :
    senderDecides (setRxState ch st s) = setRxState ch st (senderDecides s) := by
  have hreceiver : receiver (senderDecides s) ch = receiver s ch := by
    obtain ⟨hfra, hfrb, -⟩ := senderDecides_receivers s
    unfold receiver
    rw [hfra, hfrb]
  unfold setRxState
  rw [senderDecides_setReceiver, hreceiver]

/-- A part at rest is at rest again after the closing of an event that brings no request. -/
theorem resting_settle {s t : State} (hs : Resting s) (h : KeepsRequests s t) : Resting (settle t) := by
  refine ⟨?_, settled_settle hs.2 h⟩
  rw [settle_of_keepsRequests hs.2 h]
  obtain ⟨-, -, -, htbs, hreset⟩ := senderDecides_receivers t
  simpa only [Running, htbs, hreset] using h.running hs.1

/-- R151, R161: a receiver that moves at a settled part gives the closing of the event nothing to do. -/
theorem settle_setRxState {s : State} (hs : Settled s) (ch : Channel) (st : RxState) :
    settle (setRxState ch st s) = setRxState ch st s :=
  settle_of_settled hs (by simp) (by simp) (by simp)

/-- A part at rest is at rest again after a receiver has moved. -/
theorem resting_setReceiver {ch : Channel} {r : Receiver} {s : State} (hs : Resting s) :
    Resting (setReceiver ch r s) := by
  have hrest := resting_settle hs (setReceiver_keepsRequests ch r s)
  rwa [settle_of_settled hs.2 (by simp) (by simp) (by simp)] at hrest

end Sys2Proof.Machine

namespace Sys2Proof.Machine

/-! ## What a cell leads to -/

/-- From `s`, the receiver of a channel has come to HUNT with no candidate cell, and the event brings no request. -/
structure Idles (ch : Channel) (s t : State) : Prop where
  hunts : rxState t ch = .hunt none
  keeps : KeepsRequests s t

theorem Idles.of_keeps {ch : Channel} {s t u : State} (h : KeepsRequests s t) (g : Idles ch t u) : Idles ch s u :=
  ⟨g.hunts, h.trans g.keeps⟩

theorem idles_setReceiver (ch : Channel) (k : RxCounters) (s : State) :
    Idles ch s (setReceiver ch { state := .hunt none, counters := k } s) :=
  ⟨rxState_setReceiver _ _ _, setReceiver_keepsRequests _ _ _⟩

theorem losePreamble_idles (ch : Channel) (s : State) : Idles ch s (losePreamble ch s) := by
  rw [losePreamble_eq]; exact idles_setReceiver _ _ _

theorem missSync_idles (ch : Channel) (s : State) : Idles ch s (missSync ch s) := by
  rw [missSync_eq]; exact idles_setReceiver _ _ _

/-- R142: the report of an error changes the alarm block and the notice set alone. -/
theorem reportReceiverError_frame (s : State) :
    ∃ alm notices, reportReceiverError s = { s with alm := alm, trk.notices := notices } := by
  unfold reportReceiverError
  dsimp only
  split
  · rw [raise_frame]; exact ⟨_, _, rfl⟩
  · exact ⟨_, _, rfl⟩

theorem reportReceiverError_keeps (s : State) (ch : Channel) :
    KeepsRequests s (reportReceiverError s) ∧ rxState (reportReceiverError s) ch = rxState s ch := by
  obtain ⟨_, _, h⟩ := reportReceiverError_frame s
  rw [h]
  exact ⟨⟨rfl, rfl, rfl, rfl, rfl, rfl⟩, rfl⟩

theorem bodyError_idles (ch : Channel) (e : BodyError) (s : State) : Idles ch s (bodyError ch e s) := by
  rw [bodyError_eq]
  obtain ⟨hkeeps, hrx⟩ := reportReceiverError_keeps
    (setReceiver ch { state := .hunt none, counters := (receiver s ch).counters.error e } s) ch
  exact ⟨hrx.trans (rxState_setReceiver ch _ s), (setReceiver_keepsRequests ch _ s).trans hkeeps⟩

/-- R36: a hand-over is the handling of the copy after its receiver has counted it. -/
theorem handOver_eq (c : Copy) (s : State) : handOver c s = handleCopy c (handed c s) := by
  unfold handOver
  rw [toHunt_countRx]
  rfl

theorem handOver_idles {c : Copy} {ch : Channel} {s : State} (h : c.channel = ch) :
    Idles ch s (handOver c s) := by
  subst h
  have hframe : CopyFrame (handed c s) (handleCopy c (handed c s)) := handleCopy_frame c _
  have hhanded : Idles c.channel s (handed c s) := idles_setReceiver c.channel _ s
  rw [handOver_eq]
  refine ⟨?_, hhanded.keeps.trans hframe.keepsRequests⟩
  obtain ⟨_, _, _, _, _, _, _, _, hcopy⟩ := hframe
  rw [hcopy]
  exact hhanded.hunts

theorem endTelegram_idles (ch : Channel) (t : Tracking) (bytes : List Byte) (reg : Word16) (s : State) :
    Idles ch s (endTelegram ch t bytes reg s) := by
  unfold endTelegram
  dsimp only
  split
  · exact bodyError_idles _ _ _
  · split
    · exact bodyError_idles _ _ _
    · exact handOver_idles rfl

/-- A violation at a receiver that is in no BODY loses what it has (R30–R32). -/
theorem violation_hunting {ch : Channel} {s : State} (h : (rxState s ch).hunting = true) :
    violation ch s = losePreamble ch s := by
  unfold violation
  split
  case h_1 hd | h_5 hd => rw [hd] at h; cases h
  all_goals rfl

theorem violation_body {ch : Channel} {s : State} {t : Tracking} {bytes : List Byte} {cur : Byte} {nbits : Nat}
    {reg : Word16} (h : rxState s ch = .body t bytes cur nbits reg) :
    violation ch s = bodyError ch .codeViolation s := by
  simp only [violation, h]

/-- A receiver that is neither DISABLED nor in BODY hunts. -/
theorem hunting_of_not {st : RxState} (hd : st ≠ .disabled)
    (hb : ∀ t bytes cur nbits reg, st ≠ .body t bytes cur nbits reg) : st.hunting = true := by
  cases st with
  | disabled => exact absurd rfl hd
  | body t bytes cur nbits reg => exact absurd rfl (hb t bytes cur nbits reg)
  | hunt c => rfl
  | preamble t n => rfl
  | sync t w fs n => rfl

theorem violation_idles {ch : Channel} {s : State} (h : rxState s ch ≠ .disabled) :
    Idles ch s (violation ch s) := by
  unfold violation
  split
  case h_1 hd => exact absurd hd h
  case h_5 => exact bodyError_idles _ _ _
  all_goals exact losePreamble_idles _ _

/-- The receiver times a cell of which it has seen nothing after the reference. -/
def RxState.timesFresh (st : RxState) : Prop := ∃ code us ref, timedCell st = some (code, us, ref, .fresh)

/-- From `s`, a cell or a quiet line has led to `t`: only the receiver has moved, and it satisfies `P`; or the
receiver idles. -/
def MovesOrIdles (P : RxState → Prop) (ch : Channel) (s t : State) : Prop :=
  (∃ st, P st ∧ t = setRxState ch st s) ∨ Idles ch s t

/-- R34: the check register after one more bit: the length byte and the body pass through it, the check does
not. -/
def regAfter (poly : Word16) (bytes : List Byte) (reg : Word16) (bit : Bool) : Word16 :=
  if bytes.isEmpty || decide (bytes.length ≤ (bytes.headD 0).toNat) then checkBit poly reg bit else reg

/-- R33: the byte in progress after one more bit. -/
def shiftIn (cur : Byte) (bit : Bool) : Byte := (cur <<< 1) ||| (if bit then 1 else 0)

/-- R33, R34: a byte of the telegram is complete, after `bytes`. -/
def byteDone (ch : Channel) (t : Tracking) (bytes : List Byte) (b : Byte) (reg : Word16) (s : State) : State :=
  let bytes' := bytes ++ [b]
  let len := (bytes'.headD 0).toNat
  if bytes.isEmpty ∧ ¬ (5 ≤ len ∧ len ≤ t.snap.maxLength) then bodyError ch .length s
  else if bytes'.length = len + 3 then endTelegram ch t bytes' reg s
  else setRxState ch (.body t bytes' 0 0 reg) s

section
variable {ch : Channel} {t : Tracking} {bytes : List Byte} {cur : Byte} {nbits : Nat} {reg : Word16} {bit : Bool}
  {s : State}

theorem bodyCell_within (h : nbits < 7) :
    bodyCell ch t bytes cur nbits reg bit s =
      setRxState ch (.body t bytes (shiftIn cur bit) (nbits + 1) (regAfter t.snap.checkPoly bytes reg bit)) s :=
  if_pos h

theorem bodyCell_last (h : ¬ nbits < 7) :
    bodyCell ch t bytes cur nbits reg bit s =
      byteDone ch t bytes (shiftIn cur bit) (regAfter t.snap.checkPoly bytes reg bit) s :=
  if_neg h

theorem byteDone_outcome {b : Byte} (ht : t.progress = .fresh) :
    MovesOrIdles RxState.timesFresh ch s (byteDone ch t bytes b reg s) := by
  unfold byteDone
  dsimp only
  split
  · exact .inr (bodyError_idles _ _ _)
  · split
    · exact .inr (endTelegram_idles _ _ _ _ _)
    · exact .inl ⟨_, ⟨_, _, _, by rw [timedCell, ht]⟩, rfl⟩

theorem bodyCell_outcome (ht : t.progress = .fresh) :
    MovesOrIdles RxState.timesFresh ch s (bodyCell ch t bytes cur nbits reg bit s) := by
  by_cases h : nbits < 7
  · rw [bodyCell_within h]
    exact .inl ⟨_, ⟨_, _, _, by rw [timedCell, ht]⟩, rfl⟩
  · rw [bodyCell_last h]
    exact byteDone_outcome ht

end

/-- A decided cell leaves its receiver timing the next cell, or idle. -/
theorem decodedCell_outcome {ch : Channel} {bit soft : Bool} {time : Nat} {s : State}
    (h : rxState s ch ≠ .disabled) :
    MovesOrIdles RxState.timesFresh ch s (decodedCell ch bit soft time s) := by
  cases hrx : rxState s ch with
  | disabled => exact absurd hrx h
  | hunt c =>
    rw [decodedCell_hunt hrx]
    split
    · exact .inr (idles_setReceiver ch _ s)
    · exact .inl ⟨_, ⟨_, _, _, rfl⟩, rfl⟩
  | preamble t n =>
    rw [decodedCell_preamble hrx]
    split
    · exact .inr (losePreamble_idles ch s)
    · refine .inl ⟨_, ?_, rfl⟩
      split <;> exact ⟨_, _, _, rfl⟩
  | sync t w fs n =>
    rw [decodedCell_sync hrx]
    split
    · exact .inl ⟨_, ⟨_, _, _, rfl⟩, rfl⟩
    · split
      · exact .inr (missSync_idles ch s)
      · exact .inl ⟨_, ⟨_, _, _, rfl⟩, rfl⟩
  | body t bytes cur nbits reg =>
    rw [decodedCell_body hrx]
    exact bodyCell_outcome rfl

/-! ## A quiet line -/

section
variable {ch : Channel} {s : State} {code : LineCode} {us ref : Nat} {p : CellProgress}

/-- R26–R29: a line on which no window has ended leaves the cell as it is. -/
theorem quietVerdict_waiting {tb : TimeBase} {time : Nat} {p' : CellProgress}
    (h : quietVerdict tb code us ref p time = .waiting p') : p' = p := by
  have key : ∀ {c : Prop} [Decidable c] {v : CellVerdict}, (∀ x, v ≠ .waiting x) →
      (if c then v else .waiting p) = .waiting p' → p' = p := by
    intro c _ v hv hc
    split at hc
    · exact absurd hc (hv p')
    · exact (CellVerdict.waiting.inj hc).symm
  unfold quietVerdict at h
  split at h
  all_goals
    refine key ?_ h
    nofun

/-- A cell that nothing has started is not decided by a quiet line. -/
theorem quietVerdict_fresh (tb : TimeBase) (code : LineCode) (us ref time : Nat) :
    quietVerdict tb code us ref .fresh time = .violation ∨
      quietVerdict tb code us ref .fresh time = .waiting .fresh := by
  have key : ∀ {c : Prop} [Decidable c],
      (if c then CellVerdict.violation else .waiting .fresh) = .violation ∨
        (if c then CellVerdict.violation else .waiting .fresh) = .waiting .fresh := by
    intro c _
    split
    · exact .inl rfl
    · exact .inr rfl
  cases code <;> exact key

theorem not_disabled_of_timed (h : timedCell (rxState s ch) = some (code, us, ref, p)) :
    rxState s ch ≠ .disabled := by
  intro hd
  rw [hd] at h
  cases h

/-- What a receiver has seen of its cell is recorded in the receiver alone. -/
theorem setProgress_eq (ch : Channel) (p : CellProgress) (s : State) :
    ∃ r, setProgress ch p s = setReceiver ch r s := by
  unfold setProgress
  split
  case h_1 | h_2 => exact ⟨_, (setReceiver_receiver ch s).symm⟩
  all_goals exact ⟨_, rfl⟩

theorem setProgress_same (h : timedCell (rxState s ch) = some (code, us, ref, p)) : setProgress ch p s = s := by
  unfold setProgress
  split
  case h_1 | h_2 => rfl
  all_goals
    rename_i hrx
    rw [hrx] at h
    cases h
    exact setRxState_same hrx

theorem quietOnce_untimed {time : Nat} (h : timedCell (rxState s ch) = none) : quietOnce ch time s = s := by
  simp only [quietOnce, h]

theorem quietOnce_idle {time : Nat} (h : rxState s ch = .hunt none) : quietOnce ch time s = s :=
  quietOnce_untimed (by rw [h]; rfl)

theorem quietOnce_timed {time : Nat} (h : timedCell (rxState s ch) = some (code, us, ref, p)) :
    quietOnce ch time s = applyVerdict ch (quietVerdict s.tbs code us ref p time) s := by
  simp only [quietOnce, h]

theorem quietOnce_waiting {time : Nat} (h : timedCell (rxState s ch) = some (code, us, ref, p))
    (hv : quietVerdict s.tbs code us ref p time = .waiting p) : quietOnce ch time s = s := by
  rw [quietOnce_timed h, hv]
  exact setProgress_same h

theorem lineQuiet_of_quietOnce {time : Nat} (h : quietOnce ch time s = s) : lineQuiet ch time s = s := by
  unfold lineQuiet
  rw [h, h]

/-- A quiet line at a receiver that times a fresh cell: nothing, or a missing edge. -/
theorem quietOnce_fresh {time : Nat} (h : (rxState s ch).timesFresh) :
    quietOnce ch time s = s ∨ Idles ch s (quietOnce ch time s) := by
  obtain ⟨code, us, ref, ht⟩ := h
  rcases quietVerdict_fresh s.tbs code us ref time with hv | hv
  · rw [quietOnce_timed ht, hv]
    exact .inr (violation_idles (not_disabled_of_timed ht))
  · exact .inl (quietOnce_waiting ht hv)

/-- After a cell that a quiet line decides, the line is read once more, and that settles it. -/
theorem lineQuiet_cell {time : Nat} {bit soft : Bool} {r : Nat}
    (h : timedCell (rxState s ch) = some (code, us, ref, p))
    (hv : quietVerdict s.tbs code us ref p time = .cell bit soft r) :
    lineQuiet ch time s = quietOnce ch time (decodedCell ch bit soft r s) := by
  unfold lineQuiet
  rw [quietOnce_timed h, hv]
  rfl

theorem lineQuiet_violation {time : Nat} (h : timedCell (rxState s ch) = some (code, us, ref, p))
    (hv : quietVerdict s.tbs code us ref p time = .violation) : lineQuiet ch time s = violation ch s := by
  have honce : quietOnce ch time s = violation ch s := by rw [quietOnce_timed h, hv]; rfl
  unfold lineQuiet
  rw [honce, quietOnce_idle (violation_idles (not_disabled_of_timed h)).hunts]

end

/-- A quiet line leaves its receiver where the same quiet line changes nothing more, or idle. -/
theorem lineQuiet_outcome (ch : Channel) (time : Nat) (s : State) :
    (∃ st, lineQuiet ch time s = setRxState ch st s ∧
      quietOnce ch time (lineQuiet ch time s) = lineQuiet ch time s) ∨
      Idles ch s (lineQuiet ch time s) := by
  have hstays : quietOnce ch time s = s →
      ∃ st, lineQuiet ch time s = setRxState ch st s ∧
        quietOnce ch time (lineQuiet ch time s) = lineQuiet ch time s := by
    intro h
    rw [lineQuiet_of_quietOnce h]
    exact ⟨_, (setRxState_same rfl).symm, h⟩
  cases ht : timedCell (rxState s ch) with
  | none => exact .inl (hstays (quietOnce_untimed ht))
  | some cell =>
    obtain ⟨code, us, ref, p⟩ := cell
    cases hv : quietVerdict s.tbs code us ref p time with
    | waiting p' =>
      obtain rfl := quietVerdict_waiting hv
      exact .inl (hstays (quietOnce_waiting ht hv))
    | violation =>
      rw [lineQuiet_violation ht hv]
      exact .inr (violation_idles (not_disabled_of_timed ht))
    | cell bit soft r =>
      rw [lineQuiet_cell ht hv]
      rcases decodedCell_outcome (bit := bit) (soft := soft) (time := r) (not_disabled_of_timed ht) with
        ⟨st, hfresh, hcell⟩ | hidle
      · rw [hcell]
        rcases quietOnce_fresh (s := setRxState ch st s) (ch := ch) (time := time) (by rwa [rxState_setRxState]) with
          hsame | hidle
        · rw [hsame]
          exact .inl ⟨st, rfl, hsame⟩
        · exact .inr (.of_keeps (setReceiver_keepsRequests ch _ s) hidle)
      · rw [quietOnce_idle hidle.hunts]
        exact .inr hidle

/-! ## An edge -/

/-- What an edge comes to once the windows that ended before it have decided (R27–R30). -/
def actOnEdge (ch : Channel) (rising : Bool) (time : Nat) (s : State) : State :=
  match rxState s ch with
  | .disabled => s
  | .hunt none => anchorEdge ch rising time s
  | .hunt (some _) | .preamble _ _ | .sync _ _ _ _ | .body _ _ _ _ _ =>
    match timedCell (rxState s ch) with
    | none => s
    | some (code, us, ref, p) => applyVerdict ch (edgeVerdict s.tbs code us ref p rising time) s

theorem lineEdge_eq (ch : Channel) (rising : Bool) (time : Nat) (s : State) :
    lineEdge ch rising time s = actOnEdge ch rising time (lineQuiet ch (time - 1) s) := rfl

theorem actOnEdge_idle {ch : Channel} {rising : Bool} {time : Nat} {s : State} (h : rxState s ch = .hunt none) :
    actOnEdge ch rising time s = anchorEdge ch rising time s := by
  simp only [actOnEdge, h]

theorem actOnEdge_timed {ch : Channel} {rising : Bool} {time : Nat} {s : State} {code : LineCode} {us ref : Nat}
    {p : CellProgress} (h : timedCell (rxState s ch) = some (code, us, ref, p)) :
    actOnEdge ch rising time s = applyVerdict ch (edgeVerdict s.tbs code us ref p rising time) s := by
  unfold actOnEdge
  split
  case h_1 hrx | h_2 hrx => rw [hrx] at h; cases h
  all_goals simp only [h]

/-- R30: the state in which an edge in HUNT leaves a receiver with no candidate cell. -/
def anchored (profile : RxProfile) (rising : Bool) (time : Nat) : RxState :=
  let candidate : RxState := .hunt (some { anchor := time, code := profile.code, bitTimeUs := profile.bitTimeUs })
  match profile.code with
  | .manchester => if rising then .hunt none else .preamble (.first profile false time) 1
  | .biphaseMark => candidate
  | .pulseWidth => if rising then candidate else .hunt none

theorem anchorEdge_eq {ch : Channel} {rising : Bool} {time : Nat} {s : State} (h : rxState s ch = .hunt none) :
    anchorEdge ch rising time s = setRxState ch (anchored s.profile rising time) s := by
  have hsame : setRxState ch (.hunt none) s = s := setRxState_same h
  have hcell : decodedCell ch false false time s = setRxState ch (.preamble (.first s.profile false time) 1) s :=
    decodedCell_hunt h
  cases hcode : s.profile.code with
  | manchester =>
    simp only [anchorEdge, anchored, hcode]
    cases rising
    · exact hcell
    · exact hsame.symm
  | biphaseMark => simp only [anchorEdge, anchored, hcode]
  | pulseWidth =>
    simp only [anchorEdge, anchored, hcode]
    cases rising
    · exact hsame.symm
    · rfl

theorem exec_edge (ch : Channel) (rising : Bool) (time : Nat) (s : State) :
    exec (.cellDecoded ch (.edge rising time)) s = event (lineEdge ch rising time) s := rfl

theorem exec_quiet (ch : Channel) (time : Nat) (s : State) :
    exec (.cellDecoded ch (.quiet time)) s = event (lineQuiet ch time) s := rfl

/-- After an event in which a receiver has come to idle, the part is at rest and the receiver idles. -/
theorem idles_settle {ch : Channel} {s t : State} (hs : Resting s) (h : Idles ch s t) :
    Resting (settle t) ∧ rxState (settle t) ch = .hunt none ∧ (settle t).profile = t.profile := by
  obtain ⟨hfra, hfrb, hprofile, -⟩ := senderDecides_receivers t
  refine ⟨resting_settle hs h.keeps, ?_, ?_⟩
  · rw [settle_of_keepsRequests hs.2 h.keeps, ← h.hunts]
    unfold rxState receiver
    rw [hfra, hfrb]
  · rw [settle_of_keepsRequests hs.2 h.keeps, hprofile]

end Sys2Proof.Machine

namespace Sys2Proof.Machine

/-! ## Edges and quiet lines as events -/

section
variable {ch : Channel} {s : State} {code : LineCode} {us ref : Nat} {p : CellProgress}

/-- An event that comes to a violation at a receiver that times a cell is the command of that outcome: an error in
BODY, a lost preamble elsewhere (R30–R33). -/
theorem event_violation {f : State → State} (ht : timedCell (rxState s ch) = some (code, us, ref, p))
    (hf : f s = violation ch s) :
    ((∃ t bs cur n reg, rxState s ch = .body t bs cur n reg) →
      event f s = exec (.receiverError ch .codeViolation) s) ∧
    ((∀ t bs cur n reg, rxState s ch ≠ .body t bs cur n reg) → event f s = exec (.preambleLost ch) s) := by
  have henabled := not_disabled_of_timed ht
  constructor
  · rintro ⟨t, bs, cur, n, reg, hb⟩
    rw [exec_receiverError_enabled henabled]
    exact event_congr (hf.trans (violation_body hb))
  · intro hb
    have hhunts := hunting_of_not henabled hb
    rw [exec_preambleLost]
    exact event_congr (hf.trans ((violation_hunting hhunts).trans (if_pos hhunts).symm))

/-- An edge in HUNT with no candidate cell (R30). -/
theorem exec_edge_idle {rising : Bool} {time : Nat} (h : rxState s ch = .hunt none) :
    exec (.cellDecoded ch (.edge rising time)) s =
      event (setRxState ch (anchored s.profile rising time)) s := by
  rw [exec_edge]
  refine event_congr ?_
  rw [lineEdge_eq, lineQuiet_of_quietOnce (quietOnce_idle h), actOnEdge_idle h, anchorEdge_eq h]

/-- An edge before which no window has ended acts by its verdict. -/
theorem lineEdge_timed {rising : Bool} {time : Nat} (ht : timedCell (rxState s ch) = some (code, us, ref, p))
    (hquiet : quietVerdict s.tbs code us ref p (time - 1) = .waiting p) :
    lineEdge ch rising time s = applyVerdict ch (edgeVerdict s.tbs code us ref p rising time) s := by
  rw [lineEdge_eq, lineQuiet_of_quietOnce (quietOnce_waiting ht hquiet), actOnEdge_timed ht]

/-- A part at rest whose receiver idles after an event: the same quiet line changes nothing more. -/
theorem exec_quiet_idle {time : Nat} (hs : Resting s) (h : rxState s ch = .hunt none) :
    exec (.cellDecoded ch (.quiet time)) s = .next s :=
  event_same hs (lineQuiet_of_quietOnce (quietOnce_idle h))

/-- A quiet line that decides a cell: the line is read again after the event of that cell. -/
theorem exec_quiet_cell {bit soft : Bool} {r time : Nat} (hs : Resting s)
    (ht : timedCell (rxState s ch) = some (code, us, ref, p))
    (hv : quietVerdict s.tbs code us ref p time = .cell bit soft r) :
    ∃ u, exec (.cellDecoded ch (.decided bit soft r)) s = .next u ∧
      exec (.cellDecoded ch (.quiet time)) s = exec (.cellDecoded ch (.quiet time)) u := by
  rw [exec_decided, event_running hs.1, exec_quiet, event_running hs.1, lineQuiet_cell ht hv]
  refine ⟨_, rfl, ?_⟩
  rcases decodedCell_outcome (bit := bit) (soft := soft) (time := r) (not_disabled_of_timed ht) with
    ⟨st, hfresh, hcell⟩ | hidle
  · have hrest : Resting (setRxState ch st s) := resting_setReceiver hs
    rw [hcell, settle_of_settled hrest.2 rfl rfl rfl, exec_quiet, event_running hrest.1]
    rcases quietOnce_fresh (s := setRxState ch st s) (ch := ch) (time := time) (by rwa [rxState_setRxState]) with
      hsame | hidle
    · rw [lineQuiet_of_quietOnce hsame, hsame]
    · unfold lineQuiet
      rw [quietOnce_idle (time := time) hidle.hunts]
  · obtain ⟨hrest, hhunt, -⟩ := idles_settle hs hidle
    rw [quietOnce_idle hidle.hunts, exec_quiet_idle hrest hhunt]

/-- An edge acts on what the quiet line before it has led to. -/
theorem exec_edge_after_quiet (rising : Bool) (time : Nat) (hs : Resting s) :
    ∃ u, exec (.cellDecoded ch (.quiet (time - 1))) s = .next u ∧
      exec (.cellDecoded ch (.edge rising time)) s = exec (.cellDecoded ch (.edge rising time)) u := by
  rw [exec_quiet, event_running hs.1, exec_edge, event_running hs.1, lineEdge_eq]
  refine ⟨_, rfl, ?_⟩
  rcases lineQuiet_outcome ch (time - 1) s with ⟨st, hmoved, hstays⟩ | hidle
  · have hrest : Resting (lineQuiet ch (time - 1) s) := by
      rw [hmoved]
      exact resting_setReceiver hs
    rw [settle_of_settled hrest.2 rfl rfl rfl, exec_edge, event_running hrest.1, lineEdge_eq,
      lineQuiet_of_quietOnce hstays]
  · obtain ⟨hrest, hhunt, hprofile⟩ := idles_settle hs hidle
    have hanchored : KeepsRequests s (setRxState ch
        (anchored (lineQuiet ch (time - 1) s).profile rising time) (lineQuiet ch (time - 1) s)) :=
      hidle.keeps.trans (setReceiver_keepsRequests ch _ _)
    rw [exec_edge_idle hhunt, event_running hrest.1, actOnEdge_idle hidle.hunts, anchorEdge_eq hidle.hunts, hprofile,
      settle_of_keepsRequests hs.2 hanchored,
      settle_setRxState hrest.2, settle_of_keepsRequests hs.2 hidle.keeps, senderDecides_setRxState]

end

/-- Settles O11: an edge or a quiet line is the command of its verdict; where a quiet line decides a cell, or an edge
comes after it, the two commands in turn end as the one. -/
theorem edgeOnTheFieldLine : Obligations.EdgeOnTheFieldLine := by
  intro ch rising time s hs cmd
  refine ⟨fun h => ⟨fun hcode hfall => ?_, fun hcode => ?_, fun hcode => ?_⟩, fun code us ref p ht hquiet =>
    ⟨fun bit soft r hv => ?_, fun hv => ?_, fun p' hv => ?_⟩, fun ht => ?_, fun code us ref p ht =>
    ⟨fun hv => ?_, fun bit soft r hv => ?_, fun hv => ?_, fun _ => exec_edge_after_quiet rising time hs⟩,
    fun hd input hclock => ?_⟩
  · refine (exec_edge_idle h).trans (event_congr ?_)
    rw [decodedCell_hunt h, anchored, hcode, hfall]
  · refine (exec_edge_idle h).trans (event_setReceiver hs ?_)
    rcases hcode with hcode | ⟨hcode, rfl⟩ <;> rw [anchored, hcode] <;> rfl
  · refine (exec_edge_idle h).trans (event_same hs ?_)
    rcases hcode with ⟨hcode, rfl⟩ | ⟨hcode, rfl⟩ <;> rw [anchored, hcode] <;> exact setRxState_same h
  · exact event_congr (by rw [lineEdge_timed ht hquiet, hv]; rfl)
  · exact event_violation ht (by rw [lineEdge_timed ht hquiet, hv]; rfl)
  · obtain ⟨r, hr⟩ := setProgress_eq ch p' s
    rw [hr]
    exact event_setReceiver hs (by rw [lineEdge_timed ht hquiet, hv]; exact hr)
  · exact event_same hs (lineQuiet_of_quietOnce (quietOnce_untimed ht))
  · exact event_same hs (lineQuiet_of_quietOnce (quietOnce_waiting ht hv))
  · exact exec_quiet_cell hs ht hv
  · exact event_violation ht (lineQuiet_violation ht hv)
  · have huntimed : timedCell (rxState s ch) = none := by rw [hd]; rfl
    have hquiet := fun t => lineQuiet_of_quietOnce (quietOnce_untimed (time := t) huntimed)
    cases input with
    | decided bit soft t => exact event_same hs (decodedCell_disabled hd)
    | edge rising t => exact event_same hs (by rw [lineEdge_eq, hquiet, actOnEdge, hd])
    | quiet t => exact event_same hs (hquiet t)
    | refclk r => exact absurd rfl (hclock r)

end Sys2Proof.Machine

namespace Sys2Proof.Machine

/-! ## Cells as commands -/

/-- The cells of some bits, one command each, with the class and the place of every cell. -/
def cellsOf (ch : Channel) (bits : List Bool) (marks : List (Bool × Nat)) : List Instr :=
  List.zipWith (fun b m => Instr.cellDecoded ch (.decided b m.1 m.2)) bits marks

/-- What a receiver holds after cells of these classes at these places (R26, R37). -/
def Tracking.cells (t : Tracking) (marks : List (Bool × Nat)) : Tracking :=
  marks.foldl (fun t m => t.cell m.1 m.2) t

theorem Tracking.cells_append (t : Tracking) (marks others : List (Bool × Nat)) :
    t.cells (marks ++ others) = (t.cells marks).cells others :=
  List.foldl_append

@[simp] theorem Tracking.cells_snap (t : Tracking) (marks : List (Bool × Nat)) : (t.cells marks).snap = t.snap := by
  induction marks generalizing t with
  | nil => rfl
  | cons m marks ih => exact ih (t.cell m.1 m.2)

/-- R37: every soft cell counts. -/
theorem Tracking.cells_softCells (t : Tracking) (marks : List (Bool × Nat)) :
    (t.cells marks).softCells = t.softCells + (marks.map Prod.fst).count true := by
  induction marks generalizing t with
  | nil => rfl
  | cons m marks ih =>
    refine (ih (t.cell m.1 m.2)).trans ?_
    rw [List.map_cons, List.count_cons, Tracking.cell]
    cases m.1 <;> simp [Nat.add_assoc, Nat.add_comm]

theorem carriesOut_append {xs ys : List Instr} {s u t : State} (h : carriesOut xs s u) (g : carriesOut ys u t) :
    carriesOut (xs ++ ys) s t := by
  induction xs generalizing s with
  | nil =>
    obtain rfl : u = s := h
    exact g
  | cons c xs ih =>
    obtain ⟨v, hv, h⟩ := h
    exact ⟨v, hv, ih h⟩

/-- Cells carried out in two parts. -/
theorem carriesOut_cells_append {ch : Channel} {bits others : List Bool} {marks rest : List (Bool × Nat)}
    {s u t : State} (hlen : bits.length = marks.length) (h : carriesOut (cellsOf ch bits marks) s u)
    (g : carriesOut (cellsOf ch others rest) u t) :
    carriesOut (cellsOf ch (bits ++ others) (marks ++ rest)) s t := by
  unfold cellsOf
  rw [List.zipWith_append hlen]
  exact carriesOut_append h g

/-! ## The cells of one byte -/

/-- R199: a byte is its bits in line order. -/
theorem shiftIn_byteBits (b : Byte) : (byteBits b).foldl shiftIn 0 = b := by
  revert b
  decide

/-- R34: the check register after one more byte. -/
def regByte (poly : Word16) (bytes : List Byte) (reg : Word16) (b : Byte) : Word16 :=
  (byteBits b).foldl (regAfter poly bytes) reg

/-- R34, R201: the length byte and the body pass through the check register. -/
theorem regByte_checked {poly : Word16} {bytes : List Byte} (h : bytes = [] ∨ bytes.length ≤ (bytes.headD 0).toNat)
    (reg : Word16) (b : Byte) : regByte poly bytes reg b = checkByte poly reg b := by
  have hbit : regAfter poly bytes = checkBit poly := by
    funext reg bit
    unfold regAfter
    rw [if_pos]
    simpa using h
  unfold regByte checkByte
  rw [hbit]

/-- R34: the received check does not. -/
theorem regByte_unchecked {poly : Word16} {bytes : List Byte} (hne : bytes ≠ [])
    (h : (bytes.headD 0).toNat < bytes.length) (reg : Word16) (b : Byte) : regByte poly bytes reg b = reg := by
  have hbit : regAfter poly bytes = fun reg _ => reg := by
    funext reg bit
    unfold regAfter
    rw [if_neg]
    simpa [hne] using h
  unfold regByte
  rw [hbit]
  rfl

section
variable {ch : Channel} {s : State}

theorem bodyError_setRxState (e : BodyError) (st : RxState) :
    bodyError ch e (setRxState ch st s) = bodyError ch e s := by
  rw [bodyError_eq, bodyError_eq, setRxState, setReceiver_setReceiver, receiver_setReceiver]

theorem handOver_setRxState {c : Copy} (hc : c.channel = ch) (st : RxState) :
    handOver c (setRxState ch st s) = handOver c s := by
  subst hc
  have hhanded : handed c (setRxState c.channel st s) = handed c s := by
    unfold handed
    rw [setRxState, setReceiver_setReceiver, receiver_setReceiver]
  rw [handOver_eq, handOver_eq, hhanded]

/-- The end of a telegram does not depend on what its receiver held besides. -/
theorem endTelegram_setRxState (t : Tracking) (bytes : List Byte) (reg : Word16) (st : RxState) :
    endTelegram ch t bytes reg (setRxState ch st s) = endTelegram ch t bytes reg s := by
  unfold endTelegram
  rw [now_eq, setRxState_tbs, bodyError_setRxState, bodyError_setRxState]
  dsimp only
  split
  · rfl
  · split
    · rfl
    · exact handOver_setRxState rfl st

theorem byteDone_setRxState (t : Tracking) (bytes : List Byte) (b : Byte) (reg : Word16) (st : RxState) :
    byteDone ch t bytes b reg (setRxState ch st s) = byteDone ch t bytes b reg s := by
  simp only [byteDone, bodyError_setRxState, endTelegram_setRxState, setRxState_setRxState]

/-- R33: a cell that comes to a receiver in BODY. -/
theorem exec_cell_body (hs : Resting s) (t : Tracking) (bytes : List Byte) (cur : Byte) (nbits : Nat) (reg : Word16)
    (bit soft : Bool) (time : Nat) :
    exec (.cellDecoded ch (.decided bit soft time)) (setRxState ch (.body t bytes cur nbits reg) s) =
      .next (settle (bodyCell ch (t.cell soft time) bytes cur nbits reg bit
        (setRxState ch (.body t bytes cur nbits reg) s))) := by
  have hrest : Resting (setRxState ch (.body t bytes cur nbits reg) s) := resting_setReceiver hs
  rw [exec_decided, event_running hrest.1, decodedCell_body (rxState_setRxState _ _ _)]

/-- The first seven cells of a byte move the receiver alone. -/
theorem carriesOut_within_byte (hs : Resting s) {t : Tracking} {bytes : List Byte} {cur : Byte} {nbits : Nat}
    {reg : Word16} {bits : List Bool} {marks : List (Bool × Nat)} (hlen : bits.length = marks.length)
    (hbits : nbits + bits.length ≤ 7) :
    carriesOut (cellsOf ch bits marks) (setRxState ch (.body t bytes cur nbits reg) s)
      (setRxState ch (.body (t.cells marks) bytes (bits.foldl shiftIn cur) (nbits + bits.length)
        (bits.foldl (regAfter t.snap.checkPoly bytes) reg)) s) := by
  induction bits generalizing t cur nbits reg marks with
  | nil =>
    obtain rfl := List.eq_nil_of_length_eq_zero hlen.symm
    exact rfl
  | cons bit bits ih =>
    cases marks with
    | nil => cases hlen
    | cons m marks =>
      simp only [List.length_cons] at hbits hlen
      have hrest := ih (t := t.cell m.1 m.2) (cur := shiftIn cur bit) (nbits := nbits + 1)
        (reg := regAfter t.snap.checkPoly bytes reg bit) (marks := marks) (by omega) (by omega)
      rw [Nat.add_assoc, Nat.add_comm 1] at hrest
      refine ⟨_, exec_cell_body hs t bytes cur nbits reg bit m.1 m.2, ?_⟩
      rw [bodyCell_within (by omega), setRxState_setRxState, settle_setRxState hs.2]
      exact hrest

/-- The eight cells of a byte complete it. -/
theorem carriesOut_byte (hs : Resting s) (t : Tracking) (bytes : List Byte) (reg : Word16) (b : Byte)
    {marks : List (Bool × Nat)} (hlen : marks.length = 8) :
    carriesOut (cellsOf ch (byteBits b) marks) (setRxState ch (.body t bytes 0 0 reg) s)
      (settle (byteDone ch (t.cells marks) bytes b (regByte t.snap.checkPoly bytes reg b) s)) := by
  rcases marks.eq_nil_or_concat' with rfl | ⟨front, m, rfl⟩
  · cases hlen
  · rw [List.length_append, List.length_singleton] at hlen
    have hfront : ((byteBits b).take 7).length = front.length := (Nat.succ.inj hlen).symm
    have hb : shiftIn (((byteBits b).take 7).foldl shiftIn 0) (b.getLsbD 0) = b := shiftIn_byteBits b
    refine carriesOut_cells_append (bits := (byteBits b).take 7) (others := [b.getLsbD 0]) hfront
      (carriesOut_within_byte hs hfront (Nat.le_refl 7)) ⟨_, exec_cell_body hs _ _ _ _ _ _ _ _, ?_⟩
    have hsnap : ((t.cells front).cell m.1 m.2).snap = t.snap := Tracking.cells_snap t front
    have hseven : 0 + ((byteBits b).take 7).length = 7 := rfl
    rw [hseven, bodyCell_last (Nat.lt_irrefl 7), byteDone_setRxState, hb, hsnap, Tracking.cells_append]
    exact rfl

end

/-! ## The cells of a telegram -/

/-- R34: the bits of a check are the bits of its two bytes. -/
theorem wordBits_eq (w : Word16) : wordBits w = (be16 w.toNat).flatMap byteBits := by
  have hhigh : ∀ i, i < 8 → (byteOf (w.toNat / 256)).getLsbD i = w.getLsbD (i + 8) := by
    intro i hi
    rw [byteOf, BitVec.getLsbD_ofNat, decide_eq_true hi, Bool.true_and]
    exact Nat.testBit_div_two_pow (n := 8) w.toNat i
  have hlow : ∀ i, i < 8 → (byteOf w.toNat).getLsbD i = w.getLsbD i := by
    intro i hi
    rw [byteOf, BitVec.getLsbD_ofNat, decide_eq_true hi, Bool.true_and]
    rfl
  simp only [wordBits, be16, byteBits, List.flatMap_cons, List.flatMap_nil, List.cons_append, List.nil_append,
    hhigh, hlow, Nat.reduceLT, Nat.reduceAdd]

/-- R34: the check that two received bytes stand for. -/
theorem received_be16 (w : Word16) :
    BitVec.ofNat 16 (num16 (byteOf (w.toNat / 256)) (byteOf w.toNat)) = w := by
  rw [num16_be16, BitVec.ofNat_toNat, BitVec.setWidth_eq]

/-- R36, R37: the copy that a receiver hands over at the end of a telegram. -/
def Copy.ofUplink (ch : Channel) (u : UplinkFields) (check : Word16) (endTime : PartTime) (margin : Fin 16) : Copy :=
  { channel := ch, station := u.station, sequence := u.sequence, listen := u.control.listen, urgent := u.control.urgent
    remaining := u.control.remaining, confirm := u.confirm, payload := u.payload, check := check, endTime := endTime
    margin := margin }

/-- R34–R36: the end of a telegram with this body and this received check. -/
theorem endTelegram_eq (ch : Channel) (t : Tracking) {body : List Byte} (h : body.length ≤ 255)
    (received reg : Word16)
    (s : State) :
    endTelegram ch t (byteOf body.length :: body ++ be16 received.toNat) reg s =
      if reg ≠ received then bodyError ch .check s
      else (readUplink body).elim (bodyError ch .format s) fun u =>
        handOver (Copy.ofUplink ch u received s.now (marginOf t.softCells)) s := by
  have hlen : (byteOf body.length).toNat = body.length := by rw [byteOf_toNat]; omega
  have hbody : (body ++ be16 received.toNat).take body.length = body := List.take_left
  have hhigh : (body ++ be16 received.toNat).getD body.length 0 = byteOf (received.toNat / 256) := by
    simp [be16]
  have hlow : (body ++ be16 received.toNat).getD (body.length + 1) 0 = byteOf received.toNat := by
    simp [be16]
  unfold endTelegram
  simp only [List.cons_append, List.headD_cons, List.drop_succ_cons, List.drop_zero, List.getD_cons_succ, hlen,
    hbody, hhigh, hlow, received_be16]
  cases readUplink body <;> rfl

section
variable {ch : Channel} {s : State}

/-- The cells of body bytes, as long as the telegram goes on. -/
theorem carriesOut_body (hs : Resting s) {len : Byte} {before body : List Byte} {t : Tracking} {reg : Word16}
    {marks : List (Bool × Nat)} (hlen : marks.length = 8 * body.length)
    (hbody : before.length + body.length ≤ len.toNat) :
    carriesOut (cellsOf ch (body.flatMap byteBits) marks) (setRxState ch (.body t (len :: before) 0 0 reg) s)
      (setRxState ch (.body (t.cells marks) (len :: before ++ body) 0 0
        (body.foldl (checkByte t.snap.checkPoly) reg)) s) := by
  induction body generalizing before t reg marks with
  | nil =>
    obtain rfl := List.eq_nil_of_length_eq_zero hlen
    rw [List.append_nil]
    exact rfl
  | cons b body ih =>
    rw [List.length_cons] at hlen hbody
    have hfirst : (marks.take 8).length = 8 := by rw [List.length_take]; omega
    have hrest := ih (before := before ++ [b]) (t := t.cells (marks.take 8)) (reg := checkByte t.snap.checkPoly reg b)
      (marks := marks.drop 8) (by rw [List.length_drop]; omega) (by simp; omega)
    rw [← marks.take_append_drop 8, List.flatMap_cons, Tracking.cells_append]
    refine carriesOut_cells_append hfirst.symm (carriesOut_byte hs t (len :: before) reg b hfirst) ?_
    have hdone : byteDone ch (t.cells (marks.take 8)) (len :: before) b
        (regByte t.snap.checkPoly (len :: before) reg b) s =
        setRxState ch (.body (t.cells (marks.take 8)) (len :: (before ++ [b])) 0 0
          (checkByte t.snap.checkPoly reg b)) s := by
      rw [regByte_checked (.inr (by simp; omega))]
      unfold byteDone
      rw [if_neg (by simp), if_neg (by simp; omega)]
      rfl
    rw [hdone, settle_setRxState hs.2]
    simpa using hrest

/-- R33: the cells of a length byte. -/
theorem carriesOut_length (hs : Resting s) (t : Tracking) (reg : Word16) (len : Byte) {marks : List (Bool × Nat)}
    (hlen : marks.length = 8) :
    carriesOut (cellsOf ch (byteBits len) marks) (setRxState ch (.body t [] 0 0 reg) s)
      (settle (if 5 ≤ len.toNat ∧ len.toNat ≤ t.snap.maxLength then
          setRxState ch (.body (t.cells marks) [len] 0 0 (checkByte t.snap.checkPoly reg len)) s
        else bodyError ch .length s)) := by
  have h := carriesOut_byte (ch := ch) hs t [] reg len hlen
  rw [regByte_checked (.inl rfl)] at h
  have hdone : byteDone ch (t.cells marks) [] len (checkByte t.snap.checkPoly reg len) s =
      if 5 ≤ len.toNat ∧ len.toNat ≤ t.snap.maxLength then
          setRxState ch (.body (t.cells marks) [len] 0 0 (checkByte t.snap.checkPoly reg len)) s
        else bodyError ch .length s := by
    by_cases h : 5 ≤ len.toNat ∧ len.toNat ≤ t.snap.maxLength
    · rw [byteDone, Tracking.cells_snap, if_neg (fun hbad => hbad.2 h), if_neg (by simp), if_pos h]
      rfl
    · rw [byteDone, Tracking.cells_snap, if_pos ⟨rfl, h⟩, if_neg h]
  rwa [hdone] at h

/-- R34: the cells of the two bytes of a received check end the telegram. -/
theorem carriesOut_check (hs : Resting s) (t : Tracking) {body : List Byte} (hbody : body.length ≤ 255)
    (received reg : Word16) {marks : List (Bool × Nat)} (hlen : marks.length = 16) :
    carriesOut (cellsOf ch (wordBits received) marks) (setRxState ch (.body t (byteOf body.length :: body) 0 0 reg) s)
      (settle (endTelegram ch (t.cells marks) (byteOf body.length :: body ++ be16 received.toNat) reg s)) := by
  have hlength : (byteOf body.length).toNat = body.length := by rw [byteOf_toNat]; omega
  have hfirst : (marks.take 8).length = 8 := by rw [List.length_take]; omega
  have hhigh : byteDone ch (t.cells (marks.take 8)) (byteOf body.length :: body) (byteOf (received.toNat / 256)) reg s =
      setRxState ch (.body (t.cells (marks.take 8))
        (byteOf body.length :: body ++ [byteOf (received.toNat / 256)]) 0 0 reg) s := by
    rw [byteDone, if_neg (by simp), if_neg (by simp [hlength])]
  have hlow : byteDone ch (t.cells marks) (byteOf body.length :: body ++ [byteOf (received.toNat / 256)])
      (byteOf received.toNat) reg s =
      endTelegram ch (t.cells marks) (byteOf body.length :: body ++ be16 received.toNat) reg s := by
    rw [byteDone, if_neg (by simp), if_pos (by simp [hlength]), List.append_assoc]
    rfl
  have hbits : wordBits received = byteBits (byteOf (received.toNat / 256)) ++ byteBits (byteOf received.toNat) := by
    rw [wordBits_eq]
    rfl
  rw [hbits, ← marks.take_append_drop 8]
  refine carriesOut_cells_append hfirst.symm (carriesOut_byte hs _ _ _ _ hfirst) ?_
  rw [regByte_unchecked (by simp) (by simp [hlength]), hhigh, settle_setRxState hs.2]
  have hsecond := carriesOut_byte (ch := ch) hs (t.cells (marks.take 8))
    (byteOf body.length :: body ++ [byteOf (received.toNat / 256)]) reg (byteOf received.toNat)
    (marks := marks.drop 8) (by rw [List.length_drop]; omega)
  rw [regByte_unchecked (by simp) (by simp [hlength]), ← Tracking.cells_append, List.take_append_drop,
    hlow] at hsecond
  rwa [List.take_append_drop]

theorem length_flatMap_byteBits (bs : List Byte) : (bs.flatMap byteBits).length = 8 * bs.length := by
  induction bs with
  | nil => rfl
  | cons b bs ih =>
    rw [List.flatMap_cons, List.length_append, ih, List.length_cons, Nat.mul_succ, Nat.add_comm]
    rfl

theorem exists_append_of_le {α : Type} {l : List α} {n : Nat} (h : n ≤ l.length) :
    ∃ a b, l = a ++ b ∧ a.length = n ∧ b.length = l.length - n :=
  ⟨l.take n, l.drop n, (List.take_append_drop n l).symm, List.length_take_of_le h, List.length_drop⟩

/-- R33, R34: the cells of a whole telegram whose length byte is in range. -/
theorem carriesOut_telegram (hs : Resting s) {t : Tracking} {body : List Byte} {received : Word16}
    {marks : List (Bool × Nat)} (hmin : 5 ≤ body.length) (hmax : body.length ≤ t.snap.maxLength)
    (hbody : body.length ≤ 255)
    (hlen : marks.length = ((byteOf body.length :: body).flatMap byteBits ++ wordBits received).length) :
    carriesOut (cellsOf ch ((byteOf body.length :: body).flatMap byteBits ++ wordBits received) marks)
      (setRxState ch (.body t [] 0 0 t.snap.checkInit) s)
      (settle (endTelegram ch (t.cells marks) (byteOf body.length :: body ++ be16 received.toNat)
        (checkOf t.snap.checkPoly t.snap.checkInit (byteOf body.length :: body)) s)) := by
  have hlength : (byteOf body.length).toNat = body.length := by rw [byteOf_toNat]; omega
  have hcount : marks.length = 8 + (8 * body.length + 16) := by
    rw [hlen, List.length_append, length_flatMap_byteBits, List.length_cons,
      show (wordBits received).length = 16 from rfl]
    omega
  obtain ⟨m1, rest, rfl, h1, hrest⟩ := exists_append_of_le (l := marks) (n := 8) (by omega)
  obtain ⟨m2, m3, rfl, h2, h3⟩ := exists_append_of_le (l := rest) (n := 8 * body.length) (by omega)
  have hfirst := carriesOut_length (ch := ch) hs t t.snap.checkInit (byteOf body.length) h1
  rw [hlength, if_pos ⟨hmin, hmax⟩, settle_setRxState hs.2] at hfirst
  have hmiddle := carriesOut_body (ch := ch) hs (len := byteOf body.length) (before := []) (body := body)
    (t := t.cells m1) (reg := checkByte t.snap.checkPoly t.snap.checkInit (byteOf body.length)) h2 (by simp [hlength])
  have hlast := carriesOut_check (ch := ch) hs ((t.cells m1).cells m2) hbody received
    (body.foldl (checkByte t.snap.checkPoly) (checkByte t.snap.checkPoly t.snap.checkInit (byteOf body.length)))
    (marks := m3) (by omega)
  rw [List.flatMap_cons, List.append_assoc, Tracking.cells_append, Tracking.cells_append]
  rw [Tracking.cells_snap] at hmiddle
  exact carriesOut_cells_append h1.symm hfirst
    (carriesOut_cells_append ((length_flatMap_byteBits body).trans h2.symm) hmiddle hlast)

end

end Sys2Proof.Machine

namespace Sys2Proof.Machine

/-! ## The fields of an uplink -/

/-- R199: the body of the uplink that a copy was read from. -/
def copyBody (c : Copy) : List Byte :=
  controlByte c.listen c.confirm.isSome c.urgent c.remaining.val :: be24 c.station ++ [c.sequence] ++
    c.confirm.toList ++ c.payload

theorem copyBody_length (c : Copy) :
    (copyBody c).length = 5 + (if c.confirm.isSome then 1 else 0) + c.payload.length := by
  unfold copyBody
  cases c.confirm <;> simp [be24] <;> omega

/-- R199: the length byte counts the body. -/
theorem copyLengthAndBody_eq (c : Copy) :
    copyLengthAndBody c c.remaining.val = byteOf (copyBody c).length :: copyBody c := by
  rw [copyBody_length]
  unfold copyLengthAndBody copyBody flagBit
  cases c.confirm <;> rfl

/-- R199: what the control byte of an uplink says. -/
theorem controlByte_fields (listen present urgent : Bool) (remaining : Fin 8) :
    let b := controlByte listen present urgent remaining.val
    b.getLsbD 7 = listen ∧ b.getLsbD 6 = present ∧ b.getLsbD 5 = urgent ∧ b.getLsbD 4 = false ∧
      b.getLsbD 3 = false ∧ b.toNat % 8 = remaining.val := by
  revert listen present urgent remaining
  decide

/-- R35, R199: the body of a well-formed copy is read as its fields. -/
theorem readUplink_copyBody {c : Copy} (h : c.wf = true) :
    readUplink (copyBody c) = some
      { station := c.station, sequence := c.sequence
        control := { listen := c.listen, urgent := c.urgent, remaining := c.remaining }
        confirm := c.confirm, payload := c.payload } := by
  obtain ⟨hstation, hpayload⟩ : c.station.reserved = false ∧ c.payload.length ≤ 32 := by
    simpa [Copy.wf] using h
  obtain ⟨h7, h6, h5, h4, h3, hr⟩ := controlByte_fields c.listen c.confirm.isSome c.urgent c.remaining
  have hread : readUplink (copyBody c) = uplinkTail
      (controlByte c.listen c.confirm.isSome c.urgent c.remaining.val) c.station c.sequence
      (c.confirm.toList ++ c.payload) := by
    simp only [readUplink, copyBody, be24, List.cons_append, List.nil_append, id24_be24]
  rw [hread]
  simp only [uplinkTail, h7, h6, h5, h4, h3, hr, hstation]
  obtain ⟨ch, station, sequence, listen, urgent, remaining, confirm, payload⟩ := c
  cases confirm with
  | none => simp [hpayload]
  | some q => simp [hpayload]

/-- R36: a copy is what its fields, its check, its end time and its margin say. -/
theorem ofUplink_fields {c : Copy} {margin : Fin 16} (h : c.margin = margin) :
    Copy.ofUplink c.channel
      { station := c.station, sequence := c.sequence
        control := { listen := c.listen, urgent := c.urgent, remaining := c.remaining }
        confirm := c.confirm, payload := c.payload } c.check c.endTime margin = c := by
  subst h
  rfl

/-- Settles O12: the cells end the telegram whose body is the copy's, and what the receiver reads there is the
copy. -/
theorem bodyCellsHandOverTheCopy : Obligations.BodyCellsHandOverTheCopy := by
  intro c t s marks bytes check bits hs hwf hrx hmax hlen hcheck htime hmargin
  have hbytes : bytes = byteOf (copyBody c).length :: copyBody c := copyLengthAndBody_eq c
  have hpayload : c.payload.length ≤ 32 := by
    simp only [Copy.wf, Bool.and_eq_true, decide_eq_true_eq] at hwf
    exact hwf.2
  have hbody := copyBody_length c
  have h255 : (copyBody c).length ≤ 255 := by rw [hbody]; split <;> omega
  have hstart : setRxState c.channel (.body t [] 0 0 t.snap.checkInit) s = s := setRxState_same hrx
  have hcells := carriesOut_telegram (ch := c.channel) (received := check) (marks := marks) hs
    (t := t) (body := copyBody c) (by rw [hbody]; omega) (hbody ▸ hmax) h255 (by rw [← hbytes]; exact hlen)
  have hend : endTelegram c.channel (t.cells marks) (byteOf (copyBody c).length :: copyBody c ++ be16 check.toNat)
      (checkOf t.snap.checkPoly t.snap.checkInit (byteOf (copyBody c).length :: copyBody c)) s = handOver c s := by
    have hsoft : c.margin = marginOf (t.cells marks).softCells := by
      rw [Tracking.cells_softCells]
      exact Fin.ext hmargin
    rw [endTelegram_eq _ _ h255, ← hbytes, if_neg (not_not.mpr rfl), readUplink_copyBody hwf, ← htime]
    exact congrArg (handOver · s) (hcheck ▸ ofUplink_fields hsoft)
  have hhands : HandsOver c s := ⟨hs.1, by rw [hrx]; rfl, hwf⟩
  refine ⟨_, (exec_copy hhands).trans (by rw [← handOver_eq, ← hend]), ?_⟩
  rw [hstart, ← hbytes] at hcells
  rw [← hbytes]
  exact hcells

/-! ## Telegrams that end in an error -/

/-- An error in BODY as its command. -/
theorem exec_receiverError_body {ch : Channel} {e : BodyError} {s : State} {t : Tracking} {reg : Word16}
    (hs : Resting s) (hrx : rxState s ch = .body t [] 0 0 reg) :
    exec (.receiverError ch e) s = .next (settle (bodyError ch e s)) := by
  rw [exec_receiverError_enabled (by rw [hrx]; nofun), event_running hs.1]

/-- R35, R200: the body of a downlink breaks the format of an uplink, since bit 4 of its control byte is set. -/
theorem readUplink_downlink (station : StationId) (sequence : Byte) (payload : List Byte) :
    readUplink ([0x10] ++ be24 station ++ [sequence] ++ payload) = none := rfl

/-- Settles O13: the length byte alone, or the whole telegram, ends in the error that the checks find first. -/
theorem bodyCellsEndInAnError : Obligations.BodyCellsEndInAnError := by
  refine ⟨fun ch t s len marks hs hrx hlen hmarks => ⟨_, exec_receiverError_body hs hrx, ?_⟩, ?_,
    readUplink_downlink⟩
  · have hcells := carriesOut_length (ch := ch) hs t t.snap.checkInit len hmarks
    rw [setRxState_same hrx, if_neg hlen] at hcells
    exact hcells
  · intro ch t s body received marks bytes bits cells hs hrx hmin hmax hbody hmarks
    have hcells := carriesOut_telegram (ch := ch) hs hmin hmax hbody hmarks
    rw [setRxState_same hrx, endTelegram_eq _ _ hbody] at hcells
    refine ⟨fun hbad => ⟨_, exec_receiverError_body hs hrx, ?_⟩,
      fun hgood hformat => ⟨_, exec_receiverError_body hs hrx, ?_⟩⟩
    · rw [if_pos (Ne.symm hbad)] at hcells
      exact hcells
    · rw [if_neg (not_not.mpr hgood.symm), hformat] at hcells
      exact hcells

end Sys2Proof.Machine

namespace Sys2Proof.Machine

/-! ## The enables -/

/-- R38: a receiver that is disabled, with a partial telegram counted as abandoned. -/
def Receiver.disable (r : Receiver) : Receiver :=
  { state := .disabled, counters := if r.state.inTelegram then r.counters.abandon else r.counters }

/-- R39: a receiver that is enabled. -/
def Receiver.enable (r : Receiver) : Receiver := if r.state.isEnabled then r else { r with state := .hunt none }

theorem disableReceiver_eq (ch : Channel) (s : State) :
    disableReceiver ch s = setReceiver ch (receiver s ch).disable s := by
  unfold disableReceiver Receiver.disable
  rw [show rxState s ch = (receiver s ch).state from rfl]
  cases hr : (receiver s ch).state.inTelegram <;> cases ch <;> rfl

theorem enableReceiver_eq (ch : Channel) (s : State) :
    enableReceiver ch s = setReceiver ch (receiver s ch).enable s := by
  unfold enableReceiver Receiver.enable
  rw [show rxState s ch = (receiver s ch).state from rfl]
  cases hr : (receiver s ch).state.isEnabled <;> cases ch <;> rfl

/-! ## The level of a cause -/

theorem mem_allCauses (c : Cause) : c ∈ allCauses := by
  cases c <;> decide

theorem attnDue_iff {s : State} :
    attnDue s = true ↔ ∃ c, pendingCause s c = true ∧ s.alm.attentionLevel ≤ (causeState s c).level := by
  simp [attnDue, mem_allCauses]

/-- R136, R139: whether a cause is in the notice set once its level is set to `v`. -/
def noticeAtLevel (s : State) (c : Cause) (v : Nat) : Bool :=
  if v = 0 then false
  else inNotices s c || ((causeState s c).level == 0 && pendingCause s c && s.trk.session.isOpen)

/-- A cause that is put into the notice set, or out of it, as it is there already. -/
theorem setNotice_inNotices (s : State) (c : Cause) : setNotice c (inNotices s c) s = s := by
  unfold setNotice inNotices
  rw [show s.trk.notices.set c.index s.trk.notices[c.index] = s.trk.notices from Vector.set_getElem_self ..]

theorem joinNotice_eq (c : Cause) (s : State) :
    joinNotice c s = setNotice c (inNotices s c || noticeDue s c) s := by
  unfold joinNotice
  cases noticeDue s c with
  | true => rw [if_pos rfl, Bool.or_true]
  | false => rw [if_neg Bool.false_ne_true, Bool.or_false, setNotice_inNotices]

/-- R139: a level is set, the notice set follows it, and ATTN is decided. -/
theorem setLevel_eq (c : Cause) (v : Nat) (s : State) :
    setLevel c v s = decideAttn (setNotice c (noticeAtLevel s c v)
      (setCause c { causeState s c with level := v } s)) := by
  have hself : causeState (setCause c { causeState s c with level := v } s) c =
      { causeState s c with level := v } := by rw [causeState_setCause, if_pos rfl]
  unfold setLevel noticeAtLevel
  refine congrArg decideAttn ?_
  by_cases hv : v = 0
  · rw [if_pos hv, if_pos hv]
  rw [if_neg hv, if_neg hv]
  by_cases hold : (causeState s c).level = 0
  · rw [if_pos hold, joinNotice_eq, noticeDue, pendingCause, hself, hold, decide_eq_true (by omega : 1 ≤ v)]
    simp only [Bool.and_true, beq_self_eq_true, Bool.true_and]
    rw [Bool.and_comm]
    rfl
  · rw [if_neg hold, beq_eq_false_iff_ne.mpr hold, Bool.false_and, Bool.false_and, Bool.or_false]
    exact (setNotice_inNotices (setCause c _ s) c).symm

/-- R141: ATTN after a cause's level is set. -/
theorem attnDue_setLevel {c : Cause} {v : Nat} {m : Bool} {s : State} :
    attnDue (setNotice c m (setCause c { causeState s c with level := v } s)) = true ↔
      ∃ c', pendingCause s c' = true ∧
        s.alm.attentionLevel ≤ (if c' = c then v else (causeState s c').level) := by
  have hstate : ∀ c', causeState (setNotice c m (setCause c { causeState s c with level := v } s)) c' =
      if c' = c then { causeState s c with level := v } else causeState s c' := fun c' => causeState_setCause ..
  rw [attnDue_iff]
  refine exists_congr fun c' => ?_
  rw [pendingCause, hstate]
  by_cases hc : c' = c
  · rw [if_pos hc, if_pos hc, hc]
    rfl
  · rw [if_neg hc, if_neg hc]
    rfl

/-! ## Parameters with further effects -/

/-- Settles O45: one rule for each of the five kinds of parameter. -/
theorem parametersThatActAtOnce : Obligations.ParametersThatActAtOnce := by
  intro s abandons off on
  have hoff : Receiver.disable = off := by
    funext r
    unfold Receiver.disable off
    cases hr : r.state <;> rfl
  have hon : Receiver.enable = on := by
    funext r
    unfold Receiver.enable on
    cases hr : r.state <;> rfl
  rw [← hoff, ← hon]
  refine ⟨disableReceiver_eq .A _, disableReceiver_eq .B _, enableReceiver_eq .A _, enableReceiver_eq .B _,
    fun v h => restartIdle_closed h, fun v h => ?_, fun v => ⟨_, rfl, attnDue_iff⟩,
    fun c v => ⟨_, noticeAtLevel s c v, setLevel_eq c v s, attnDue_setLevel, rfl⟩⟩
  cases hsession : s.trk.session with
  | closed => exact absurd hsession h
  | opened d => exact restartIdle_opened hsession

end Sys2Proof.Machine

namespace Sys2Proof.Machine

/-! ## The counter groups -/

theorem carryOut_getCounters (args : List Byte) (s : State) : carryOut 0x52 args s = reqGetCounters args s := rfl

theorem carryOut_clearCounters (args : List Byte) (s : State) : carryOut 0x53 args s = reqClearCounters args s :=
  rfl

theorem groupOf_undefined {n : Byte} (h : n = 0 ∨ 7 < n.toNat) : groupOf n = none := by
  have hne : ∀ b : Byte, b ≠ 0 → b.toNat ≤ 7 → n ≠ b := by
    rintro b h0 hb rfl
    rcases h with h | h
    · exact h0 h
    · omega
  simp [groupOf, hne]

theorem reqGetCounters_read {n : Byte} {g : CounterGroup} (s : State) (h : groupOf n = some g) :
    reqGetCounters [n] s = done (counterResults n g s) s := by
  simp only [reqGetCounters, h]

theorem reqGetCounters_undefined {n : Byte} (s : State) (h : groupOf n = none) :
    reqGetCounters [n] s = refuse .badValue s := by
  simp only [reqGetCounters, h]

theorem reqClearCounters_read {n : Byte} {g : CounterGroup} (s : State) (h : groupOf n = some g) :
    reqClearCounters [n] s = done (counterResults n g s) (clearGroup g s) := by
  simp only [reqClearCounters, h]

theorem reqClearCounters_undefined {n : Byte} (s : State) (h : groupOf n = none) :
    reqClearCounters [n] s = refuse .badValue s := by
  simp only [reqClearCounters, h]

/-- R186: the counters of the cleared group are all 0. -/
theorem groupCounters_clearGroup_self (g : CounterGroup) (s : State) :
    groupCounters g (clearGroup g s) = List.replicate (groupCounters g s).length 0 := by
  cases g <;> rfl

/-- R186: the other groups keep theirs. -/
theorem groupCounters_clearGroup_other {g h : CounterGroup} (hne : h ≠ g) (s : State) :
    groupCounters h (clearGroup g s) = groupCounters h s := by
  cases g <;> cases h <;> try rfl
  all_goals exact absurd rfl hne

/-- R186: nothing but counters changes. -/
theorem clearGroup_countersAlone (g : CounterGroup) (s : State) :
    clearGroup g s = { s with
      fra.counters := (clearGroup g s).fra.counters, frb.counters := (clearGroup g s).frb.counters
      rpf.counters := (clearGroup g s).rpf.counters, dls.counters := (clearGroup g s).dls.counters
      ftx.counters := (clearGroup g s).ftx.counters, dst.counters := (clearGroup g s).dst.counters
      trk.counters := (clearGroup g s).trk.counters } := by
  cases g <;> rfl

/-- Settles O53: the group code is read back, and the clear writes the counters of that group alone. -/
theorem countersAreReadAndCleared : Obligations.CountersAreReadAndCleared := by
  refine ⟨?_, fun tag n s hopen hn => ⟨fun h => ?_, fun h => ?_⟩,
    fun s => ⟨fun r => ⟨?_, ?_, rfl⟩, rfl, rfl, rfl, rfl, rfl⟩, fun g s =>
      ⟨groupCounters_clearGroup_self g s, fun h hne => groupCounters_clearGroup_other hne s,
        clearGroup_countersAlone g s⟩⟩
  · intro tag g s hopen code results
    have hgroup : groupOf code = some g := by cases g <;> rfl
    exact ⟨fun h => request_carriedOut h hopen (by decide) (by simp)
        ((carryOut_getCounters _ _).trans (reqGetCounters_read _ hgroup)),
      fun h => request_carriedOut h hopen (by decide) (by simp)
        ((carryOut_clearCounters _ _).trans (reqClearCounters_read _ hgroup))⟩
  · exact request_refused h hopen (by decide) (by simp) ((carryOut_getCounters _ _).trans
      (reqGetCounters_undefined _ (groupOf_undefined hn)))
  · exact request_refused h hopen (by decide) (by simp) ((carryOut_clearCounters _ _).trans
      (reqClearCounters_undefined _ (groupOf_undefined hn)))
  · rintro rfl
    rfl
  · rintro rfl
    rfl

end Sys2Proof.Machine

namespace Sys2Proof.Machine

/-! ## Records that leave the list -/

/-- A notice that may be due does not depend on the records. -/
theorem joinNotice_withRecords (c : Cause) (rs : List Record) (s : State) :
    joinNotice c { s with rpf.records := rs } = { joinNotice c s with rpf.records := rs } := by
  have hdue : noticeDue { s with rpf.records := rs } c = noticeDue s c := rfl
  unfold joinNotice
  rw [hdue]
  split <;> rfl

/-- A raise does not depend on the records. -/
theorem raise_withRecords (c : Cause) (rs : List Record) (s : State) :
    raise c { s with rpf.records := rs } = { raise c s with rpf.records := rs } := by
  cases ho : (causeState s c).occurrence with
  | some o => rw [raise_of_pending ho, raise_of_pending (s := { s with rpf.records := rs }) ho]; rfl
  | none =>
    rw [raise_of_clear ho, raise_of_clear (s := { s with rpf.records := rs }) ho]
    exact congrArg decideAttn (joinNotice_withRecords c rs
      (setCause c { causeState s c with occurrence := some { count := 1, first := s.now } } s))

/-- An offer to the stream does not depend on the records. -/
theorem offerTelegram_withRecords (t : TelegramItem) (rs : List Record) (s : State) :
    offerTelegram t { s with rpf.records := rs } = { offerTelegram t s with rpf.records := rs } := by
  by_cases h : 24 ≤ s.dst.telegramCount
  · rw [offerTelegram_lost h, offerTelegram_lost (s := { s with rpf.records := rs }) h]
    exact raise_withRecords .streamDrop rs { s with rpf.counters.itemsLost := bump s.rpf.counters.itemsLost }
  · rw [offerTelegram_taken (Nat.not_le.mp h),
      offerTelegram_taken (s := { s with rpf.records := rs }) (Nat.not_le.mp h)]

theorem isOf_iff {r : Record} {id : StationId} {q : Byte} :
    r.isOf id q = true ↔ r.station = id ∧ r.sequence = q := by simp [Record.isOf]

/-- A change of a telegram's record before the record leaves does not show in what stays. -/
theorem filter_notOf_map {id : StationId} {q : Byte} {f : Record → Record} (hf : RecordCalm f) (rs : List Record) :
    (rs.map fun x => if x.isOf id q then f x else x).filter (fun x => !x.isOf id q) =
      rs.filter fun x => !x.isOf id q := by
  have hkeep : ∀ x, (f x).isOf id q = x.isOf id q := by
    intro x
    obtain ⟨hid, hq⟩ := Prod.mk.inj (hf.telegram x)
    simp only [Record.isOf, hid, hq]
  induction rs with
  | nil => rfl
  | cons x xs ih =>
    rw [List.map_cons]
    by_cases hx : x.isOf id q = true
    · rw [if_pos hx, List.filter_cons_of_neg (by simp [hkeep, hx]), List.filter_cons_of_neg (by simp [hx]), ih]
    · rw [if_neg hx, List.filter_cons_of_pos (by simp [hx]), List.filter_cons_of_pos (by simp [hx]), ih]

/-- A record whose telegram no other record has leaves alone, and the others keep their order. -/
theorem filter_notOf_of_unique {before others : List Record} {r : Record}
    (hunique : ∀ x ∈ before ++ others, ¬ (x.station = r.station ∧ x.sequence = r.sequence)) :
    (before ++ r :: others).filter (fun x => !x.isOf r.station r.sequence) = before ++ others := by
  have hkeep : ∀ x ∈ before ++ others, (!x.isOf r.station r.sequence) = true := by
    intro x hx
    rw [Bool.not_eq_true', ← Bool.not_eq_true, isOf_iff]
    exact hunique x hx
  rw [List.filter_append, List.filter_cons_of_neg (by simp [isOf_self]), ← List.filter_append,
    List.filter_eq_self.mpr hkeep]

/-- R56, R60: a closing record produces its item, and stays as a SETTLED one. -/
theorem closeRecord_eq (r : Record) (b : Bool) (s : State) :
    closeRecord r b s = offerTelegram (itemOf r (originAtClose s.stab r) b)
      (mapRecord r.station r.sequence Record.settle s) := rfl

/-- R53, R57, R60: what a record that closes and leaves amounts to: its item is produced, and the list has lost
it. -/
theorem dropRecord_closeRecord (r : Record) (b : Bool) (s : State) :
    dropRecord r.station r.sequence (closeRecord r b s) =
      { offerTelegram (itemOf r (originAtClose s.stab r) b) s with
        rpf.records := s.rpf.records.filter fun x => !x.isOf r.station r.sequence } := by
  rw [closeRecord_eq, mapRecord, offerTelegram_withRecords, dropRecord, filter_notOf_map settle_calm]

/-- R53: with a SETTLED record in the list, the oldest one leaves. -/
theorem makePlace_settled {s : State} {r : Record}
    (h : s.rpf.records.find? (fun x => !x.isGathering) = some r) :
    makePlace s = raise .rtlPressure
      { dropRecord r.station r.sequence s with rpf.counters.evictions := bump s.rpf.counters.evictions } := by
  simp only [makePlace, h, dropRecord_rpf_counters]

/-- R53: with every record GATHERING, the oldest one closes and leaves. -/
theorem makePlace_gathering {s : State} {r : Record} {others : List Record} (hrecords : s.rpf.records = r :: others)
    (h : ∀ x ∈ r :: others, x.isGathering = true) :
    makePlace s = raise .rtlPressure
      { dropRecord r.station r.sequence (closeRecord r true s) with
        rpf.counters.evictions := bump s.rpf.counters.evictions } := by
  have hnone : s.rpf.records.find? (fun x => !x.isGathering) = none := by
    rw [hrecords, List.find?_eq_none]
    intro x hx
    simp [h x hx]
  have hevictions : (closeRecord r true s).rpf.counters.evictions = s.rpf.counters.evictions := by
    obtain ⟨_, _, _, _, _, _, hclosed⟩ := closeRecord_frame r true s
    rw [hclosed]
  unfold makePlace
  rw [hnone]
  dsimp only
  rw [hrecords]
  dsimp only
  rw [dropRecord_rpf_counters, hevictions]

/-- Settles O18: the record that leaves is the first that is not GATHERING, or the first of all. -/
theorem placeIsMade : Obligations.PlaceIsMade := by
  intro s before others r hrecords hunique hbefore
  constructor
  · intro hr
    have holdest : s.rpf.records.find? (fun x => !x.isGathering) = some r := by
      rw [hrecords]
      exact List.find?_eq_some_iff_append.mpr
        ⟨by simp [hr], before, others, rfl, fun x hx => by simp [hbefore x hx]⟩
    rw [makePlace_settled holdest, dropRecord, hrecords, filter_notOf_of_unique hunique]
  · rintro rfl hr hothers origin t
    rw [makePlace_gathering hrecords (List.forall_mem_cons.mpr ⟨hr, hothers⟩), dropRecord_closeRecord, hrecords,
      filter_notOf_of_unique hunique]
    rfl

/-! ## Deadlines of a record -/

section
variable {id : StationId} {q : Byte} {s : State} {r : Record}

/-- R56: GATHER_DEADLINE closes a GATHERING record whose deadline is reached. -/
theorem exec_gatherDeadline_reached {d : PartTime} (h : Running s) (hr : findRecord s.rpf.records id q = some r)
    (hstate : r.state = .gathering d) (hd : reached s.now d = true) :
    exec (.gatherDeadline id q) s = .next (settle (closeRecord r false s)) := by
  show execGatherDeadline id q s = _
  simp only [execGatherDeadline, event_running h, hr, hstate, hd, if_true]

/-- R192: GATHER_DEADLINE of a SETTLED record, or before the deadline, has no effect. -/
theorem exec_gatherDeadline_early (h : Running s) (hr : findRecord s.rpf.records id q = some r)
    (hearly : r.state = .settled ∨ ∃ d, r.state = .gathering d ∧ reached s.now d = false) :
    exec (.gatherDeadline id q) s = .next (settle s) := by
  show execGatherDeadline id q s = _
  rcases hearly with hstate | ⟨d, hstate, hd⟩
  · simp only [execGatherDeadline, event_running h, hr, hstate]
  · simp only [execGatherDeadline, event_running h, hr, hstate, hd, Bool.false_eq_true, if_false]

/-- R57: SETTLE_DEADLINE of a record, once reached, removes it, closing it first when it is GATHERING. -/
theorem exec_settleDeadline (h : Running s) (hr : findRecord s.rpf.records id q = some r) :
    exec (.settleDeadline id q) s = .next (settle (
      if reached s.now r.settleDeadline then
        dropRecord id q (if r.isGathering then closeRecord r false s else s)
      else s)) := by
  show execSettleDeadline id q s = _
  simp only [execSettleDeadline, event_running h, hr]

end

/-- Settles O21: the record found is of the telegram, so that what closes and what leaves is that record. -/
theorem recordDeadlines : Obligations.RecordDeadlines := by
  intro id q s r h hr origin others
  obtain ⟨-, rfl, rfl⟩ := findRecord_some hr
  have hothers : others = s.rpf.records.filter fun x => !x.isOf r.station r.sequence := by
    refine List.filter_congr fun x _ => ?_
    rw [decide_not, Bool.eq_iff_iff]
    simp [Record.isOf]
  rw [exec_settleDeadline h hr, hothers]
  refine ⟨fun d hstate hd => ?_, exec_gatherDeadline_early h hr,
    fun hd => ⟨fun hsettled => ?_, fun hgathering => ?_⟩, fun hd => ?_⟩
  · rw [exec_gatherDeadline_reached h hr hstate hd, closeRecord_eq]
    simp only [mapRecord, isOf_iff]
    rfl
  · simp only [hd, hsettled, if_true, Bool.false_eq_true, if_false, dropRecord]
  · simp only [hd, hgathering, if_true, dropRecord_closeRecord]
    rfl
  · simp only [hd, Bool.false_eq_true, if_false]

end Sys2Proof.Machine

/-!
The downlink store and the field transmitter: what the slots, the transmitter and the OUTCOME items say of one
another, part by part, and the changes of one slot that keep it.
-/

namespace Sys2Proof.Machine

/-! ## The slots as one function -/

/-- A place that changes state changes the slots in that place alone. -/
theorem slotState_setSlot_eq (i : Fin 16) (st : SlotState) (s : State) :
    slotState (setSlot i st s) = Function.update (slotState s) i st := by
  funext j
  rw [slotState_setSlot, Function.update_apply]

theorem isOf_iff_downlink {st : SlotState} {id : StationId} :
    st.isOf id = true ↔ ∃ d, st.downlink = some d ∧ d.station = id := by
  cases st <;> simp [SlotState.isOf, SlotState.downlink]

/-- A test that differs at one member alone counts at most one more. -/
theorem countP_le_succ {α : Type} {p q : α → Bool} {a : α} {l : List α} (hl : l.Nodup)
    (h : ∀ b, b ≠ a → q b = p b) : l.countP q ≤ l.countP p + 1 := by
  induction l with
  | nil => exact Nat.zero_le _
  | cons x xs ih =>
    obtain ⟨hx, hxs⟩ := List.nodup_cons.mp hl
    by_cases hxa : x = a
    · subst x
      have hrest : xs.countP q = xs.countP p :=
        List.countP_congr fun b hb => by rw [h b (ne_of_mem_of_not_mem hb hx)]
      rw [List.countP_cons, List.countP_cons, hrest]
      split <;> omega
    · have hrest := ih hxs
      rw [List.countP_cons, List.countP_cons, h x hxa]
      omega

/-! ## The downlinks of the slots -/

/-- Slots whose downlinks agree with one another (R69, R71, R76): the part of the invariant that asks nothing of the
transmitter and the stream. -/
structure DownlinksSound (f : Fin 16 → SlotState) : Prop where
  oneActive : ∀ (i j : Fin 16) (d e : Downlink), (f i).isActive = true → (f j).isActive = true →
    (f i).downlink = some d → (f j).downlink = some e → d.station = e.station → i = j
  fourSlots : ∀ id : StationId, (List.finRange 16).countP (fun i => (f i).isOf id) ≤ 4
  attempts : ∀ (i : Fin 16) (d : Downlink), (f i).downlink = some d → d.attemptsLeft + d.transmissions ≤ 8
  orders : ∀ (i j : Fin 16) (d e : Downlink), (f i).downlink = some d → (f j).downlink = some e →
    d.station = e.station → d.order = e.order → i = j
  oldest : ∀ (i j : Fin 16) (d e : Downlink), (f i).isActive = true → (f i).downlink = some d → f j = .held e →
    d.station = e.station → d.order < e.order
  spare : ∀ (i : Fin 16) (d : Downlink), (f i = .held d ∨ ∃ o c, f i = .armed d o c) → 1 ≤ d.attemptsLeft

/-- A state that may stand in slot `i` beside the other slots. -/
structure SlotFits (f : Fin 16 → SlotState) (i : Fin 16) (st : SlotState) : Prop where
  alone : ∀ (j : Fin 16) (d e : Downlink), j ≠ i → st.isActive = true → (f j).isActive = true →
    st.downlink = some d → (f j).downlink = some e → d.station ≠ e.station
  room : ∀ id : StationId, st.isOf id = true →
    (f i).isOf id = true ∨ (List.finRange 16).countP (fun j => (f j).isOf id) < 4
  attempts : ∀ d : Downlink, st.downlink = some d → d.attemptsLeft + d.transmissions ≤ 8
  distinct : ∀ (j : Fin 16) (d e : Downlink), j ≠ i → st.downlink = some d → (f j).downlink = some e →
    d.station = e.station → d.order ≠ e.order
  first : ∀ (j : Fin 16) (d e : Downlink), j ≠ i → st.isActive = true → st.downlink = some d → f j = .held e →
    d.station = e.station → d.order < e.order
  behind : ∀ (j : Fin 16) (d e : Downlink), j ≠ i → (f j).isActive = true → (f j).downlink = some d →
    st = .held e → d.station = e.station → d.order < e.order
  spare : ∀ d : Downlink, (st = .held d ∨ ∃ o c, st = .armed d o c) → 1 ≤ d.attemptsLeft

/-- A slot that takes up a fitting state leaves the downlinks sound. -/
theorem DownlinksSound.update {f : Fin 16 → SlotState} {i : Fin 16} {st : SlotState} (h : DownlinksSound f)
    (hst : SlotFits f i st) : DownlinksSound (Function.update f i st) := by
  have hself : Function.update f i st i = st := Function.update_self i st f
  have hother : ∀ {j}, j ≠ i → Function.update f i st j = f j := fun hj => Function.update_of_ne hj st f
  constructor
  case oneActive =>
    intro j k d e hj hk hd he hid
    by_cases hji : j = i <;> by_cases hki : k = i
    · rw [hji, hki]
    · subst j
      rw [hself] at hj hd
      rw [hother hki] at hk he
      exact absurd hid (hst.alone k d e hki hj hk hd he)
    · subst k
      rw [hself] at hk he
      rw [hother hji] at hj hd
      exact absurd hid.symm (hst.alone j e d hji hk hj he hd)
    · rw [hother hji] at hj hd
      rw [hother hki] at hk he
      exact h.oneActive j k d e hj hk hd he hid
  case fourSlots =>
    intro id
    have hfour := h.fourSlots id
    by_cases hnew : st.isOf id = true → (f i).isOf id = true
    · refine le_trans (List.countP_mono_left fun j _ hj => ?_) hfour
      by_cases hji : j = i
      · subst j
        rw [hself] at hj
        exact hnew hj
      · rwa [hother hji] at hj
    · obtain ⟨hof, hold⟩ := Classical.not_imp.mp hnew
      have hroom := (hst.room id hof).resolve_left hold
      have hone := countP_le_succ (p := fun j => (f j).isOf id)
        (q := fun j => (Function.update f i st j).isOf id) (a := i) (List.nodup_finRange 16)
        fun j hj => by rw [hother hj]
      omega
  case attempts =>
    intro j d hd
    by_cases hji : j = i
    · subst j; rw [hself] at hd; exact hst.attempts d hd
    · rw [hother hji] at hd; exact h.attempts j d hd
  case orders =>
    intro j k d e hd he hid ho
    by_cases hji : j = i <;> by_cases hki : k = i
    · rw [hji, hki]
    · subst j
      rw [hself] at hd
      rw [hother hki] at he
      exact absurd ho (hst.distinct k d e hki hd he hid)
    · subst k
      rw [hself] at he
      rw [hother hji] at hd
      exact absurd ho.symm (hst.distinct j e d hji he hd hid.symm)
    · rw [hother hji] at hd
      rw [hother hki] at he
      exact h.orders j k d e hd he hid ho
  case oldest =>
    intro j k d e hj hd hk hid
    by_cases hji : j = i <;> by_cases hki : k = i
    · rw [hji.trans hki.symm, hk] at hj
      cases hj
    · subst j
      rw [hself] at hj hd
      rw [hother hki] at hk
      exact hst.first k d e hki hj hd hk hid
    · subst k
      rw [hself] at hk
      rw [hother hji] at hj hd
      exact hst.behind j d e hji hj hd hk hid
    · rw [hother hji] at hj hd
      rw [hother hki] at hk
      exact h.oldest j k d e hj hd hk hid
  case spare =>
    intro j d hd
    by_cases hji : j = i
    · subst j; rw [hself] at hd; exact hst.spare d hd
    · rw [hother hji] at hd; exact h.spare j d hd

/-- A slot goes on with the downlink it holds, or drops it: no attempt is added, and it is active or HELD after only
if it was active before. -/
structure GoesOn (old new : SlotState) : Prop where
  downlink : ∀ e, new.downlink = some e → ∃ d, old.downlink = some d ∧ e.station = d.station ∧ e.order = d.order ∧
    e.attemptsLeft + e.transmissions ≤ d.attemptsLeft + d.transmissions
  active : new.isActive = true ∨ new.isHeld = true → old.isActive = true
  spare : ∀ d, (new = .held d ∨ ∃ o c, new = .armed d o c) → 1 ≤ d.attemptsLeft

/-- A slot that goes on fits where it stood. -/
theorem DownlinksSound.goesOn {f : Fin 16 → SlotState} {i : Fin 16} {st : SlotState} (h : DownlinksSound f)
    (hst : GoesOn (f i) st) : SlotFits f i st := by
  constructor
  case alone =>
    intro j d e hji ha hj hd he hid
    obtain ⟨d', hd', hst', -⟩ := hst.downlink d hd
    exact hji (h.oneActive j i e d' hj (hst.active (.inl ha)) he hd' (hid.symm.trans hst'))
  case room =>
    intro id hof
    obtain ⟨d, hd, rfl⟩ := isOf_iff_downlink.mp hof
    obtain ⟨d', hd', hst', -⟩ := hst.downlink d hd
    exact .inl (isOf_iff_downlink.mpr ⟨d', hd', hst'.symm⟩)
  case attempts =>
    intro d hd
    obtain ⟨d', hd', -, -, hle⟩ := hst.downlink d hd
    exact hle.trans (h.attempts i d' hd')
  case distinct =>
    intro j d e hji hd he hid ho
    obtain ⟨d', hd', hst', ho', -⟩ := hst.downlink d hd
    exact hji (h.orders j i e d' he hd' (hid.symm.trans hst') (ho.symm.trans ho'))
  case first =>
    intro j d e _ ha hd he hid
    obtain ⟨d', hd', hst', ho', -⟩ := hst.downlink d hd
    rw [ho']
    exact h.oldest i j d' e (hst.active (.inl ha)) hd' he (hst'.symm.trans hid)
  case behind =>
    intro j d e hji hj hd he hid
    obtain ⟨d', hd', hst', -⟩ := hst.downlink e (by rw [he]; rfl)
    exact absurd (h.oneActive j i d d' hj (hst.active (.inr (by rw [he]; rfl))) hd hd' (hid.trans hst')) hji
  case spare => exact hst.spare

theorem goesOn_free (old : SlotState) : GoesOn old .free := ⟨nofun, nofun, nofun⟩

theorem goesOn_reporting {old : SlotState} {d : Downlink} (r : DownlinkResult) (time : PartTime)
    (h : old.downlink = some d) : GoesOn old (.reporting d r time) := by
  refine ⟨fun e he => ?_, nofun, nofun⟩
  obtain rfl := Option.some.inj he
  exact ⟨d, h, rfl, rfl, le_refl _⟩

/-- R75, R79: an active slot with an attempt left returns to HELD. -/
theorem goesOn_held {old : SlotState} {d : Downlink} (h : old.downlink = some d) (ha : old.isActive = true)
    (hleft : 1 ≤ d.attemptsLeft) : GoesOn old (.held d) := by
  refine ⟨fun e he => ?_, fun _ => ha, ?_⟩
  · obtain rfl := Option.some.inj he
    exact ⟨d, h, rfl, rfl, le_refl _⟩
  · rintro e (he | ⟨o, c, he⟩) <;> cases he
    exact hleft

theorem goesOn_awaitConfirm {old : SlotState} {d : Downlink} (h : old.downlink = some d)
    (ha : old.isActive = true) : GoesOn old (.awaitConfirm d) := by
  refine ⟨fun e he => ?_, fun _ => ha, by rintro e (he | ⟨o, c, he⟩) <;> cases he⟩
  obtain rfl := Option.some.inj he
  exact ⟨d, h, rfl, rfl, le_refl _⟩

/-- R80: a grant takes one attempt and makes one transmission. -/
theorem goesOn_granted {old : SlotState} {d : Downlink} (h : old.downlink = some d) (ha : old.isActive = true)
    (hleft : 1 ≤ d.attemptsLeft) : GoesOn old (.sending d.granted) := by
  refine ⟨fun e he => ?_, fun _ => ha, by rintro e (he | ⟨o, c, he⟩) <;> cases he⟩
  obtain rfl := Option.some.inj he
  exact ⟨d, h, rfl, rfl, by simp only [Downlink.granted]; omega⟩

/-- R71, R76: the oldest HELD slot of a station with no active slot may be armed. -/
theorem DownlinksSound.arms {f : Fin 16 → SlotState} {i : Fin 16} {d : Downlink} (o c : PartTime)
    (h : DownlinksSound f) (hi : f i = .held d)
    (hnone : ∀ j e, (f j).isActive = true → (f j).downlink = some e → e.station ≠ d.station)
    (hfirst : ∀ j e, f j = .held e → e.station = d.station → d.order ≤ e.order) :
    SlotFits f i (.armed d o c) := by
  have hdown : (f i).downlink = some d := by rw [hi]; rfl
  constructor
  case alone =>
    intro j d' e _ _ hj hd he hid
    obtain rfl := Option.some.inj hd
    exact hnone j e hj he hid.symm
  case room => exact fun id hof => .inl (by rw [hi]; exact hof)
  case attempts =>
    intro d' hd
    obtain rfl := Option.some.inj hd
    exact h.attempts i d hdown
  case distinct =>
    intro j d' e hji hd he hid ho
    obtain rfl := Option.some.inj hd
    exact hji (h.orders j i e d he hdown hid.symm ho.symm)
  case first =>
    intro j d' e hji _ hd he hid
    obtain rfl := Option.some.inj hd
    have hne : d.order ≠ e.order := fun ho => hji (h.orders j i e d (by rw [he]; rfl) hdown hid.symm ho.symm)
    have hle := hfirst j e he hid.symm
    omega
  case behind => exact fun _ _ _ _ _ _ he => nomatch he
  case spare =>
    rintro d' (hd | ⟨_, _, hd⟩)
    · cases hd
    · obtain ⟨rfl, -, -⟩ := SlotState.armed.inj hd
      exact h.spare i d (.inl hi)

/-- R72, R73: a new downlink fills a FREE place, within its station's limit and behind all others. -/
theorem DownlinksSound.queues {f : Fin 16 → SlotState} {i : Fin 16} {d : Downlink}
    (hlimit : (List.finRange 16).countP (fun j => (f j).isOf d.station) < 4)
    (hattempts : 1 ≤ d.attemptsLeft ∧ d.attemptsLeft + d.transmissions ≤ 8)
    (hlast : ∀ j e, (f j).downlink = some e → e.order < d.order) : SlotFits f i (.held d) := by
  constructor
  case alone => exact fun _ _ _ _ ha => nomatch ha
  case room =>
    intro id hof
    obtain ⟨d', hd, rfl⟩ := isOf_iff_downlink.mp hof
    obtain rfl := Option.some.inj hd
    exact .inr hlimit
  case attempts =>
    intro d' hd
    obtain rfl := Option.some.inj hd
    exact hattempts.2
  case distinct =>
    intro j d' e _ hd he _ ho
    obtain rfl := Option.some.inj hd
    have := hlast j e he
    omega
  case first => exact fun _ _ _ _ ha => nomatch ha
  case behind =>
    intro j e d' _ _ he hd _
    obtain rfl := SlotState.held.inj hd
    exact hlast j e he
  case spare =>
    rintro d' (hd | ⟨_, _, hd⟩)
    · obtain rfl := SlotState.held.inj hd
      exact hattempts.1
    · cases hd

/-! ## Slots, transmitter and OUTCOME items -/

/-- R100: the slot that is SENDING is the one the transmitter sends. -/
def KeyedBy (f : Fin 16 → SlotState) (x : TxState) : Prop :=
  ∀ i, (f i).isSending = true ↔ ∃ snap n, x = .sending snap i n

/-- The transmitter sends no slot (section 5.3). -/
def TxState.Quiet (x : TxState) : Prop := ∀ snap i n, x ≠ .sending snap i n

theorem TxState.quiet_idle : TxState.Quiet .idle := nofun
theorem TxState.quiet_testing (d : PartTime) : TxState.Quiet (.testing d) := nofun
theorem TxState.quiet_stopping (rest : List Bool) : TxState.Quiet (.stopping rest) := nofun

/-- R101: candidates are ARMED and kept as a rising list. -/
def CandidatesArmed (f : Fin 16 → SlotState) (l : List (Fin 16)) : Prop :=
  (∀ i ∈ l, ∃ d o c, f i = .armed d o c) ∧ l.Pairwise (fun i j => i < j)

/-- R88: the slots in REPORTING are those of the OUTCOME items, one item for each. -/
def ReportedIn (f : Fin 16 → SlotState) (l : List (Fin 16)) : Prop :=
  (∀ i, (f i).isReporting = true ↔ i ∈ l) ∧ l.Nodup

/-- R99, R106: the levels of FTX_EN and FTX_KEY that a transmitter state requires; a state with ticks left stands at
the level of the present one. -/
def LinesStand : TxState → Bool → Bool → Prop
  | .idle, en, key => en = false ∧ key = false
  | .testing _, en, key => en = true ∧ key = true
  | .sending snap _ n, en, key => en = true ∧ ∀ l, snap.levels[n]? = some l → key = l
  | .stopping rest, en, key => en = true ∧ ∀ l, rest.head? = some l → key = l

/-- The parameters give a telegram a preamble, which begins with a mark (R94, R96, R97). -/
def TxParams.BeginWithMark (p : TxParams) : Prop := 1 ≤ p.halfBitTicks ∧ 1 ≤ p.preambleBits

/-- What the slots, the transmitter and the slots of the OUTCOME items say of one another. -/
structure SlotsAgree (f : Fin 16 → SlotState) (x : Transmitter) (outcomes : List (Fin 16)) : Prop where
  downlinks : DownlinksSound f
  keyed : KeyedBy f x.state
  candidates : CandidatesArmed f x.candidates
  reported : ReportedIn f outcomes
  lines : LinesStand x.state x.enLine x.keyLine
  mark : x.params.BeginWithMark

theorem linesStand_iff {x : TxState} {en key : Bool} :
    LinesStand x en key ↔
      (x = .idle → en = false ∧ key = false) ∧ (∀ d, x = .testing d → en = true ∧ key = true) ∧
      ((∀ snap i n, x = .sending snap i n → en = true) ∧ (∀ rest, x = .stopping rest → en = true)) ∧
      ((∀ snap i n l, x = .sending snap i n → snap.levels[n]? = some l → key = l) ∧
        (∀ l rest, x = .stopping (l :: rest) → key = l)) := by
  cases x with
  | idle => simp [LinesStand]
  | testing d => simp [LinesStand]
  | sending snap i n =>
    simp only [LinesStand, reduceCtorEq, false_implies, implies_true, true_and, and_true,
      TxState.sending.injEq, and_imp]
    exact ⟨fun ⟨he, hk⟩ => ⟨fun _ _ _ _ _ _ => he, fun _ _ _ l h _ hn => h ▸ hn ▸ hk l⟩,
      fun ⟨he, hk⟩ => ⟨he snap i n rfl rfl rfl, fun l => hk snap i n l rfl rfl rfl⟩⟩
  | stopping rest => cases rest <;> simp [LinesStand]

/-- The invariant of the slots in its parts. -/
theorem slotInv_iff {s : State} : SlotInv s ↔ SlotsAgree (slotState s) s.ftx (outcomeSlots s) := by
  constructor
  · intro h
    exact
      { downlinks := ⟨h.oneActive, h.fourSlots, h.attempts, h.orders, h.oldest, h.spare⟩
        keyed := h.keyed
        candidates := ⟨h.armed, h.rising⟩
        reported := ⟨h.reported, h.once⟩
        lines := linesStand_iff.mpr ⟨h.idleLines, h.testLines, h.busyLines, h.keyLevels⟩
        mark := h.firstMark }
  · rintro ⟨hd, hkeyed, ⟨harmed, hrising⟩, ⟨hreported, honce⟩, hlines, hmark⟩
    obtain ⟨hidle, htest, hbusy, hlevels⟩ := linesStand_iff.mp hlines
    exact
      { keyed := hkeyed, armed := harmed, rising := hrising, reported := hreported, once := honce
        oneActive := hd.oneActive, fourSlots := hd.fourSlots, attempts := hd.attempts, orders := hd.orders
        oldest := hd.oldest, spare := hd.spare, idleLines := hidle, testLines := htest, busyLines := hbusy
        keyLevels := hlevels, firstMark := hmark }

/-! ### One slot changes -/

section
variable {f : Fin 16 → SlotState} {i : Fin 16} {st : SlotState}

theorem KeyedBy.update {x : TxState} (h : KeyedBy f x) (hst : st.isSending = (f i).isSending) :
    KeyedBy (Function.update f i st) x := by
  intro j
  rw [← h j, Function.update_apply]
  split
  · subst j; rw [hst]
  · rfl

/-- R100: nothing is SENDING while the transmitter sends nothing. -/
theorem keyedBy_quiet {x : TxState} (hx : x.Quiet) : KeyedBy f x ↔ ∀ i, (f i).isSending = false := by
  refine forall_congr' fun i => ?_
  have hno : ¬ ∃ snap n, x = .sending snap i n := fun ⟨snap, n, h⟩ => hx snap i n h
  simp only [hno, iff_false, Bool.not_eq_true]

theorem CandidatesArmed.update {l : List (Fin 16)} (h : CandidatesArmed f l)
    (hi : ∀ d o c, f i ≠ .armed d o c) : CandidatesArmed (Function.update f i st) l := by
  refine ⟨fun j hj => ?_, h.2⟩
  obtain ⟨d, o, c, ha⟩ := h.1 j hj
  refine ⟨d, o, c, ?_⟩
  rwa [Function.update_of_ne]
  rintro rfl
  exact hi d o c ha

theorem CandidatesArmed.leave {l : List (Fin 16)} (h : CandidatesArmed f l) :
    CandidatesArmed (Function.update f i st) (l.filter (fun j => j != i)) := by
  refine ⟨fun j hj => ?_, h.2.filter _⟩
  obtain ⟨hj, hji⟩ := List.mem_filter.mp hj
  rw [Function.update_of_ne (by simpa using hji)]
  exact h.1 j hj

/-- R78, R101: an ARMED slot joins the rising list. -/
theorem CandidatesArmed.join {l : List (Fin 16)} (h : CandidatesArmed f l) (hi : ∃ d o c, f i = .armed d o c) :
    CandidatesArmed f (l.filter (fun j => decide (j < i)) ++ i :: l.filter (fun j => decide (i < j))) := by
  have hbefore : ∀ j ∈ l.filter (fun j => decide (j < i)), j ∈ l ∧ j < i := fun j hj => by
    simpa using List.mem_filter.mp hj
  have hafter : ∀ j ∈ l.filter (fun j => decide (i < j)), j ∈ l ∧ i < j := fun j hj => by
    simpa using List.mem_filter.mp hj
  refine ⟨fun j hj => ?_, ?_⟩
  · rcases List.mem_append.mp hj with hj | hj
    · exact h.1 j (hbefore j hj).1
    · rcases List.mem_cons.mp hj with rfl | hj
      · exact hi
      · exact h.1 j (hafter j hj).1
  · refine List.pairwise_append.mpr ⟨h.2.filter _, List.pairwise_cons.mpr ⟨fun j hj => (hafter j hj).2, h.2.filter _⟩,
      fun j hj k hk => ?_⟩
    have hji := (hbefore j hj).2
    rcases List.mem_cons.mp hk with rfl | hk
    · exact hji
    · exact hji.trans (hafter k hk).2

theorem ReportedIn.update {l : List (Fin 16)} (h : ReportedIn f l) (hst : st.isReporting = (f i).isReporting) :
    ReportedIn (Function.update f i st) l := by
  refine ⟨fun j => ?_, h.2⟩
  rw [← h.1 j, Function.update_apply]
  split
  · subst j; rw [hst]
  · rfl

/-- R88: a slot that reaches its result has one item, the newest. -/
theorem ReportedIn.reach {l : List (Fin 16)} (h : ReportedIn f l) (hi : (f i).isReporting = false)
    (hst : st.isReporting = true) : ReportedIn (Function.update f i st) (l ++ [i]) := by
  have hnot : i ∉ l := fun hm => by rw [(h.1 i).mpr hm] at hi; cases hi
  refine ⟨fun j => ?_, ?_⟩
  · rw [Function.update_apply, List.mem_append, List.mem_singleton]
    split
    · simp [*]
    · simp [h.1 j, *]
  · rw [List.nodup_append_comm]
    exact List.nodup_cons.mpr ⟨hnot, h.2⟩

theorem ReportedIn.perm {l k : List (Fin 16)} (h : ReportedIn f l) (hk : l.Perm k) : ReportedIn f k :=
  ⟨fun j => (h.1 j).trans hk.mem_iff, hk.nodup h.2⟩

/-- R89: a slot whose item has left goes to FREE. -/
theorem ReportedIn.release {l : List (Fin 16)} (h : ReportedIn f (i :: l)) :
    ReportedIn (Function.update f i .free) l := by
  obtain ⟨hi, hl⟩ := List.nodup_cons.mp h.2
  refine ⟨fun j => ?_, hl⟩
  rw [Function.update_apply]
  split
  · subst j; simp [SlotState.isReporting, hi]
  · rw [h.1 j, List.mem_cons, or_iff_right ‹_›]

end

end Sys2Proof.Machine

namespace Sys2Proof.Machine

/-! ## Operations that leave slots, transmitter and OUTCOME items as they are -/

theorem slotsOf_append (l k : List Item) : slotsOf (l ++ k) = slotsOf l ++ slotsOf k := List.filterMap_append

theorem outcomeSlots_eq (s : State) :
    outcomeSlots s = slotsOf (s.dst.window.map SentItem.item) ++ slotsOf s.dst.waiting := slotsOf_append _ _

/-- R116: a TELEGRAM item that is placed among others adds no slot. -/
theorem slotsOf_placeTelegram (t : TelegramItem) (queue : List Item) :
    slotsOf (placeTelegram t queue) = slotsOf queue := by
  unfold placeTelegram
  split
  · rw [slotsOf_append, show slotsOf (Item.telegram t :: queue.dropWhile Item.isUrgent) =
      slotsOf (queue.dropWhile Item.isUrgent) from rfl, ← slotsOf_append, List.takeWhile_append_dropWhile]
  · rw [slotsOf_append]
    exact List.append_nil _

/-- The slots, the transmitter and the slots of the OUTCOME items are the same in both states. -/
structure KeepsSlots (s t : State) : Prop where
  places : t.dls.places = s.dls.places
  transmitter : t.ftx = s.ftx
  outcomes : outcomeSlots t = outcomeSlots s

theorem KeepsSlots.refl (s : State) : KeepsSlots s s := ⟨rfl, rfl, rfl⟩

theorem KeepsSlots.trans {s t u : State} (h : KeepsSlots s t) (g : KeepsSlots t u) : KeepsSlots s u :=
  ⟨g.places.trans h.places, g.transmitter.trans h.transmitter, g.outcomes.trans h.outcomes⟩

/-- The places of the store, the transmitter and the items of the stream stay as they are. -/
theorem KeepsSlots.of_eq {s t : State} (hd : t.dls.places = s.dls.places) (hx : t.ftx = s.ftx)
    (hw : t.dst.window = s.dst.window) (hq : t.dst.waiting = s.dst.waiting) : KeepsSlots s t :=
  ⟨hd, hx, by rw [outcomeSlots_eq, outcomeSlots_eq, hw, hq]⟩

/-- What keeps the slots of `t` keeps those of `s`, when both hold the same. -/
theorem KeepsSlots.from_eq {s t u : State} (g : KeepsSlots t u) (hd : t.dls.places = s.dls.places)
    (hx : t.ftx = s.ftx) (hw : t.dst.window = s.dst.window) (hq : t.dst.waiting = s.dst.waiting) : KeepsSlots s u :=
  (KeepsSlots.of_eq hd hx hw hq).trans g

theorem KeepsSlots.ite {p : Prop} [Decidable p] {s t u : State} (ht : KeepsSlots s t) (hu : KeepsSlots s u) :
    KeepsSlots s (if p then t else u) := by
  split <;> assumption

theorem SlotInv.keep {s t : State} (hs : SlotInv s) (h : KeepsSlots s t) : SlotInv t := by
  have hslots : slotState t = slotState s := by funext i; unfold slotState; rw [h.places]
  rw [slotInv_iff, hslots, h.transmitter, h.outcomes]
  exact slotInv_iff.mp hs

/-! ## Results, windows and grants -/

theorem slotState_withSlot (i : Fin 16) (st : SlotState) (s : State) :
    slotState (withSlot s i st) = Function.update (slotState s) i st := slotState_setSlot_eq i st s

theorem outcomeSlots_reachResult (i : Fin 16) (d : Downlink) (r : DownlinkResult) (s : State) :
    outcomeSlots (reachResult i d r s) = outcomeSlots s ++ [i] := by
  rw [outcomeSlots_eq, outcomeSlots_eq, List.append_assoc]
  exact congrArg _ (slotsOf_append _ _)

/-- R87, R88: a slot that is not SENDING and has no result yet reaches one. -/
theorem reachResult_slotInv {i : Fin 16} {d : Downlink} (r : DownlinkResult) {s : State} (hs : SlotInv s)
    (hd : (slotState s i).downlink = some d) (hsend : (slotState s i).isSending = false)
    (hreport : (slotState s i).isReporting = false) : SlotInv (reachResult i d r s) := by
  obtain ⟨hdown, hkeyed, hcand, hrep, hlines, hmark⟩ := slotInv_iff.mp hs
  have hslots : slotState (reachResult i d r s) = Function.update (slotState s) i (.reporting d r s.now) :=
    slotState_withSlot i _ s
  rw [slotInv_iff, hslots, outcomeSlots_reachResult]
  exact
    { downlinks := hdown.update (hdown.goesOn (goesOn_reporting r s.now hd))
      keyed := hkeyed.update hsend.symm
      candidates := hcand.leave
      reported := hrep.reach hreport rfl
      lines := hlines
      mark := hmark }

/-- A place that was not ARMED changes state beside SENDING and REPORTING. -/
theorem setSlot_slotInv {i : Fin 16} {st : SlotState} {s : State} (hs : SlotInv s)
    (hfits : SlotFits (slotState s) i st) (hsend : st.isSending = (slotState s i).isSending)
    (hreport : st.isReporting = (slotState s i).isReporting) (harmed : ∀ d o c, slotState s i ≠ .armed d o c) :
    SlotInv (setSlot i st s) := by
  obtain ⟨hdown, hkeyed, hcand, hrep, hlines, hmark⟩ := slotInv_iff.mp hs
  rw [slotInv_iff, slotState_setSlot_eq]
  exact ⟨hdown.update hfits, hkeyed.update hsend, hcand.update harmed, hrep.update hreport, hlines, hmark⟩

/-- R75, R79: an ARMED slot returns to HELD and leaves the candidates. -/
theorem withSlot_held_slotInv {i : Fin 16} {d : Downlink} {o c : PartTime} {s : State} (hs : SlotInv s)
    (hi : slotState s i = .armed d o c) : SlotInv (withSlot s i (.held d)) := by
  obtain ⟨hdown, hkeyed, hcand, hrep, hlines, hmark⟩ := slotInv_iff.mp hs
  rw [slotInv_iff, slotState_withSlot]
  exact
    { downlinks := hdown.update (hdown.goesOn
        (goesOn_held (by rw [hi]; rfl) (by rw [hi]; rfl) (hdown.spare i d (.inr ⟨o, c, hi⟩))))
      keyed := hkeyed.update (by rw [hi]; rfl)
      candidates := hcand.leave
      reported := hrep.update (by rw [hi]; rfl)
      lines := hlines
      mark := hmark }

/-- R79: an ARMED slot misses its window. -/
theorem missWindow_slotInv {i : Fin 16} {d : Downlink} {o c : PartTime} {s : State} (hs : SlotInv s)
    (hi : slotState s i = .armed d o c) : SlotInv (missWindow i d s) := by
  rw [missWindow_eq, raise_frame]
  exact (withSlot_held_slotInv hs hi).keep (.of_eq rfl rfl rfl rfl)

/-- R96–R99: a telegram begins with a mark. -/
theorem TxSnapshot.levels_first {snap : TxSnapshot} (h : snap.params.BeginWithMark) {l : Bool}
    (hl : snap.levels[0]? = some l) : l = true := by
  obtain ⟨hunit, hpreamble⟩ := h
  obtain ⟨h', hunit'⟩ := Nat.exists_eq_add_of_le' hunit
  obtain ⟨n, hn⟩ := Nat.exists_eq_add_of_le' hpreamble
  unfold TxSnapshot.levels TxSnapshot.bits at hl
  rw [hn, hunit', List.replicate_succ] at hl
  cases hcode : snap.params.code <;> simp [hcode, cellLevels, List.replicate_succ] at hl <;> exact hl

/-- R80, R95, R100: an IDLE transmitter is granted to a candidate. -/
theorem grant_slotInv {i : Fin 16} {s : State} (hs : SlotInv s) (hidle : s.ftx.state = .idle)
    (hi : i ∈ s.ftx.candidates) : SlotInv (grant i s) := by
  obtain ⟨hdown, hkeyed, hcand, hrep, hlines, hmark⟩ := slotInv_iff.mp hs
  obtain ⟨d, o, c, ha⟩ := hcand.1 i hi
  have hslots : slotState (grant i s) = Function.update (slotState s) i (.sending d.granted) := by
    rw [grant_armed ha]; exact slotState_withSlot i _ s
  have hquiet : ∀ j, (slotState s j).isSending = false :=
    (keyedBy_quiet (by rw [hidle]; exact TxState.quiet_idle)).mp hkeyed
  rw [slotInv_iff, hslots, grant_armed ha]
  exact
    { downlinks := hdown.update (hdown.goesOn
        (goesOn_granted (by rw [ha]; rfl) (by rw [ha]; rfl) (hdown.spare i d (.inr ⟨o, c, ha⟩))))
      keyed := by
        intro j
        rw [Function.update_apply]
        split
        · subst j; exact iff_of_true rfl ⟨_, _, rfl⟩
        · rw [hquiet j]
          refine iff_of_false nofun ?_
          rintro ⟨snap, n, hx⟩
          cases hx
          exact absurd rfl ‹¬ _›
      candidates := hcand.leave
      reported := hrep.update (by rw [ha]; rfl)
      lines := ⟨rfl, fun l hl => (TxSnapshot.levels_first (snap := takeTxSnapshot s d) hmark hl).symm⟩
      mark := hmark }

/-- R102: the arbiter chooses among the candidates that may be granted. -/
theorem arbiterChoice_mem {s : State} {i : Fin 16} (h : arbiterChoice s = some i) :
    i ∈ s.ftx.candidates ∧ grantable s i = true := by
  obtain ⟨before, others, hl, -, -⟩ := firstMax_some _ _ _ h
  have hi : i ∈ s.ftx.candidates.filter (grantable s) := by rw [hl]; simp
  exact List.mem_filter.mp hi

theorem arbiter_busy {s : State} (h : s.ftx.state ≠ .idle) : arbiter s = s := by
  unfold arbiter
  split
  · exact absurd ‹_› h
  all_goals rfl

theorem arbiter_none {s : State} (h : arbiterChoice s = none) : arbiter s = s := by
  unfold arbiter
  rw [h]
  split <;> rfl

theorem arbiter_some {s : State} {i : Fin 16} (hidle : s.ftx.state = .idle) (h : arbiterChoice s = some i) :
    arbiter s = grant i s := by
  simp only [arbiter, hidle, h]

theorem arbiter_slotInv {s : State} (hs : SlotInv s) : SlotInv (arbiter s) := by
  by_cases hidle : s.ftx.state = .idle
  · cases hc : arbiterChoice s with
    | none => rwa [arbiter_none hc]
    | some i =>
      rw [arbiter_some hidle hc]
      exact grant_slotInv hs hidle (arbiterChoice_mem hc).1
  · rwa [arbiter_busy hidle]

/-- R78, R101: an ARMED slot is offered to the transmitter. -/
theorem offerSlot_slotInv {i : Fin 16} {s : State} (hs : SlotInv s) (hi : ∃ d o c, slotState s i = .armed d o c) :
    SlotInv (offerSlot i s) := by
  obtain ⟨hdown, hkeyed, hcand, hrep, hlines, hmark⟩ := slotInv_iff.mp hs
  refine arbiter_slotInv (slotInv_iff.mpr ⟨hdown, hkeyed, hcand.join hi, hrep, hlines, hmark⟩)

/-! ## The transmitter -/

/-- R105, R107, R110: a transmitter that sends no slot goes IDLE. -/
theorem goIdle_slotInv {s : State} (hs : SlotInv s) (hx : s.ftx.state.Quiet) :
    SlotInv (goIdle s) := by
  obtain ⟨hdown, hkeyed, hcand, hrep, -, hmark⟩ := slotInv_iff.mp hs
  exact slotInv_iff.mpr
    ⟨hdown, (keyedBy_quiet TxState.quiet_idle).mpr ((keyedBy_quiet hx).mp hkeyed), hcand, hrep, ⟨rfl, rfl⟩, hmark⟩

/-- R106: a transmitter that sends no slot begins a carrier test. -/
theorem startTest_slotInv {s : State} (d : PartTime) (hs : SlotInv s)
    (hx : s.ftx.state.Quiet) : SlotInv (startTest d s) := by
  obtain ⟨hdown, hkeyed, hcand, hrep, -, hmark⟩ := slotInv_iff.mp hs
  exact slotInv_iff.mpr
    ⟨hdown, (keyedBy_quiet (TxState.quiet_testing d)).mpr ((keyedBy_quiet hx).mp hkeyed), hcand, hrep,
      ⟨rfl, rfl⟩, hmark⟩

/-- The invariant does not depend on the transmit counters. -/
theorem SlotInv.countTransmit {s : State} (hs : SlotInv s) (k : TransmitCounters) :
    SlotInv { s with ftx.counters := k } := by
  obtain ⟨hdown, hkeyed, hcand, hrep, hlines, hmark⟩ := slotInv_iff.mp hs
  exact slotInv_iff.mpr ⟨hdown, hkeyed, hcand, hrep, hlines, hmark⟩

/-- Of the transmit parameters, the invariant asks a unit and a preamble (R94). -/
theorem SlotInv.setTxParams {s : State} (hs : SlotInv s) {p : TxParams} (hp : p.BeginWithMark) :
    SlotInv { s with ftx.params := p } := by
  obtain ⟨hdown, hkeyed, hcand, hrep, hlines, -⟩ := slotInv_iff.mp hs
  exact slotInv_iff.mpr ⟨hdown, hkeyed, hcand, hrep, hlines, hp⟩

/-- R81: at the end of a transmission the slot waits for its confirm, or expires once its lifetime is over. -/
theorem takeTransmissionEnd_sending {i : Fin 16} {d : Downlink} {s : State} (h : slotState s i = .sending d) :
    takeTransmissionEnd i s =
      if reached s.now d.lifetimeDeadline then reachResult i d .expiredSent s else setSlot i (.awaitConfirm d) s := by
  simp only [takeTransmissionEnd, h]

/-- R100: the slot that the transmitter sends is SENDING. -/
theorem KeyedBy.slot {f : Fin 16 → SlotState} {snap : TxSnapshot} {i : Fin 16} {n : Nat}
    (h : KeyedBy f (.sending snap i n)) : ∃ d, f i = .sending d := by
  have hi := (h i).mpr ⟨snap, n, rfl⟩
  cases hf : f i <;> simp_all [SlotState.isSending]

/-- R100: the slot that the transmitter sends leaves SENDING with the end of the transmission. -/
theorem KeyedBy.ends {f : Fin 16 → SlotState} {snap : TxSnapshot} {i : Fin 16} {n : Nat} {st : SlotState}
    (h : KeyedBy f (.sending snap i n)) (hst : st.isSending = false) : KeyedBy (Function.update f i st) .idle := by
  refine (keyedBy_quiet TxState.quiet_idle).mpr fun j => ?_
  rw [Function.update_apply]
  split
  · exact hst
  · rw [Bool.eq_false_iff, ne_eq, h j]
    rintro ⟨snap', n', hx⟩
    cases hx
    exact absurd rfl ‹¬ _›

/-- R81, R105: the transmitter goes IDLE and its slot leaves SENDING. -/
theorem transmissionEnds_slotInv {s : State} {snap : TxSnapshot} {i : Fin 16} {n : Nat} (hs : SlotInv s)
    (hx : s.ftx.state = .sending snap i n) : SlotInv (takeTransmissionEnd i (goIdle s)) := by
  obtain ⟨hdown, hkeyed, hcand, hrep, -, hmark⟩ := slotInv_iff.mp hs
  rw [hx] at hkeyed
  obtain ⟨d, hi⟩ := hkeyed.slot
  have hnot : ∀ e o c, slotState s i ≠ .armed e o c := by rw [hi]; exact nofun
  rw [takeTransmissionEnd_sending (s := goIdle s) hi, slotInv_iff]
  split
  · have hslots : slotState (reachResult i d .expiredSent (goIdle s)) =
        Function.update (slotState s) i (.reporting d .expiredSent s.now) := slotState_withSlot i _ (goIdle s)
    rw [hslots, outcomeSlots_reachResult]
    exact
      { downlinks := hdown.update (hdown.goesOn (goesOn_reporting _ _ (by rw [hi]; rfl)))
        keyed := hkeyed.ends rfl
        candidates := hcand.leave
        reported := hrep.reach (by rw [hi]; rfl) rfl
        lines := ⟨rfl, rfl⟩
        mark := hmark }
  · have hslots : slotState (setSlot i (.awaitConfirm d) (goIdle s)) =
        Function.update (slotState s) i (.awaitConfirm d) := slotState_setSlot_eq i _ (goIdle s)
    rw [hslots]
    exact
      { downlinks := hdown.update (hdown.goesOn (goesOn_awaitConfirm (by rw [hi]; rfl) (by rw [hi]; rfl)))
        keyed := hkeyed.ends rfl
        candidates := hcand.update hnot
        reported := hrep.update (by rw [hi]; rfl)
        lines := ⟨rfl, rfl⟩
        mark := hmark }

/-- R96, R97, R99: a tick moves FTX_KEY to the level of the next one. -/
theorem transmitTick_slotInv {s : State} (hs : SlotInv s) : SlotInv (transmitTick s) := by
  obtain ⟨hdown, hkeyed, hcand, hrep, hlines, hmark⟩ := slotInv_iff.mp hs
  unfold transmitTick
  split
  · rename_i snap i n hx
    rw [hx] at hkeyed hlines
    split
    · refine slotInv_iff.mpr ⟨hdown, fun j => ?_, hcand, hrep, ⟨hlines.1, fun l hl => ?_⟩, hmark⟩
      · refine (hkeyed j).trans ?_
        constructor <;> (rintro ⟨_, _, h⟩; cases h; exact ⟨_, _, rfl⟩)
      · simp only [List.getD_eq_getElem?_getD, hl, Option.getD_some]
    · exact hs
  · rename_i rest hx
    rw [hx] at hkeyed hlines
    refine slotInv_iff.mpr ⟨hdown, (keyedBy_quiet (TxState.quiet_stopping _)).mpr
      ((keyedBy_quiet (TxState.quiet_stopping _)).mp hkeyed), hcand, hrep,
      ⟨hlines.1, fun l hl => ?_⟩, hmark⟩
    simp only [List.headD_eq_head?_getD, hl, Option.getD_some]
  all_goals exact hs

theorem idleTick_slotInv {s : State} (hs : SlotInv s) : SlotInv (idleTick s) := by
  unfold idleTick
  split
  · exact transmitTick_slotInv hs
  · exact hs

/-- R109, R110, R112: the lines after a warm restart; a cell in progress goes on at the level of its tick. -/
theorem restartedTransmitter_lines {x : Transmitter} (h : LinesStand x.state x.enLine x.keyLine) :
    LinesStand (restartedTransmitter x).state (restartedTransmitter x).enLine (restartedTransmitter x).keyLine ∧
      (restartedTransmitter x).state.Quiet := by
  cases hx : x.state with
  | idle =>
    rw [restartedTransmitter_resting (.inl hx)]
    exact ⟨h, by rw [hx]; exact TxState.quiet_idle⟩
  | stopping rest =>
    rw [restartedTransmitter_resting (.inr ⟨rest, hx⟩)]
    exact ⟨h, by rw [hx]; exact TxState.quiet_stopping rest⟩
  | testing d =>
    rw [restartedTransmitter_testing hx]
    exact ⟨⟨rfl, rfl⟩, TxState.quiet_idle⟩
  | sending snap i n =>
    by_cases hcell : cellRemainder snap n = []
    · rw [restartedTransmitter_ended hx hcell]
      exact ⟨⟨rfl, rfl⟩, TxState.quiet_idle⟩
    · rw [restartedTransmitter_stopping hx hcell]
      rw [hx] at h
      refine ⟨⟨h.1, fun l hl => h.2 l ?_⟩, TxState.quiet_stopping _⟩
      unfold cellRemainder at hl
      rw [List.head?_take] at hl
      split at hl
      · cases hl
      · rwa [List.head?_drop] at hl

/-- Slots that are all FREE. -/
theorem slotsAgree_free {x : Transmitter} (hx : x.state.Quiet) (hc : x.candidates = [])
    (hlines : LinesStand x.state x.enLine x.keyLine) (hmark : x.params.BeginWithMark) :
    SlotsAgree (fun _ => .free) x [] :=
  { downlinks := ⟨nofun, fun id => by simp [SlotState.isOf, SlotState.downlink], nofun, nofun, nofun,
      by rintro i d (h | ⟨o, c, h⟩) <;> cases h⟩
    keyed := (keyedBy_quiet hx).mpr fun _ => rfl
    candidates := by rw [hc]; exact ⟨nofun, List.Pairwise.nil⟩
    reported := ⟨fun _ => iff_of_false nofun List.not_mem_nil, List.nodup_nil⟩
    lines := hlines
    mark := hmark }

theorem restartedBlocks_slotInv {s : State} (hs : SlotInv s) : SlotInv (restartedBlocks s) := by
  obtain ⟨-, -, -, -, hlines, hmark⟩ := slotInv_iff.mp hs
  obtain ⟨hstand, hquiet⟩ := restartedTransmitter_lines hlines
  obtain ⟨hparams, hcandidates⟩ := restartedTransmitter_kept s.ftx
  have hslots : slotState (restartedBlocks s) = fun _ => .free := by
    funext i
    simp [slotState, restartedBlocks]
  rw [slotInv_iff, hslots]
  exact slotsAgree_free hquiet hcandidates hstand (hparams ▸ hmark)

theorem restartAlarm_keepsSlots (s : State) : KeepsSlots s (restartAlarm s) := by
  unfold restartAlarm
  dsimp only
  rw [raise_frame]
  exact .of_eq rfl rfl rfl rfl

theorem warmRestart_slotInv {s : State} (hs : SlotInv s) : SlotInv (warmRestart s) := by
  rw [warmRestart_eq]
  exact (restartedBlocks_slotInv hs).keep (restartAlarm_keepsSlots _)

theorem afterReset_slotInv (a b : Bool) (queue : List Instr) : SlotInv (State.afterReset a b queue) := by
  have hslots : slotState (State.afterReset a b queue) = fun _ => .free := by
    funext i
    simp [slotState, State.afterReset, resetStore]
  rw [slotInv_iff, hslots]
  exact slotsAgree_free TxState.quiet_idle rfl ⟨rfl, rfl⟩ ⟨Nat.le_add_left 1 1, Nat.le_add_left 1 15⟩

end Sys2Proof.Machine

namespace Sys2Proof.Machine

/-! ## The first-copy notification and discard claims -/

theorem activeSlot_none {s : State} {id : StationId} : activeSlot s id = none ↔ NoneActive s id := by
  unfold activeSlot NoneActive
  rw [List.find?_eq_none]
  simp [List.mem_finRange]

/-- The first smallest member is in the list, and no key is smaller. -/
theorem firstMin_some {ι : Type} (key : ι → Nat) {l : List ι} {x : ι} (h : firstMin key l = some x) :
    x ∈ l ∧ ∀ y ∈ l, key x ≤ key y := by
  induction l generalizing x with
  | nil => cases h
  | cons y ys ih =>
    simp only [firstMin] at h
    cases hm : firstMin key ys with
    | none =>
      rw [hm] at h
      have hnil : ys = [] := by
        cases ys with
        | nil => rfl
        | cons z zs =>
          simp only [firstMin] at hm
          split at hm
          · cases hm
          · split at hm <;> cases hm
      obtain rfl := Option.some.inj h
      simp [hnil]
    | some z =>
      obtain ⟨hz, hmin⟩ := ih hm
      rw [hm] at h
      dsimp only at h
      split at h
      · obtain rfl := Option.some.inj h
        refine ⟨List.mem_cons_of_mem y hz, List.forall_mem_cons.mpr ⟨by omega, hmin⟩⟩
      · obtain rfl := Option.some.inj h
        refine ⟨List.mem_cons_self, List.forall_mem_cons.mpr ⟨le_refl _, fun w hw => ?_⟩⟩
        have := hmin w hw
        omega

theorem mem_heldSlots {s : State} {id : StationId} {i : Fin 16} :
    i ∈ heldSlots s id ↔ ∃ d, slotState s i = .held d ∧ d.station = id := by
  unfold heldSlots
  rw [List.mem_filter]
  cases hs : slotState s i <;> simp [SlotState.isOf, SlotState.isHeld, SlotState.downlink]

/-- R71: the slot at the head of the station queue is HELD, and none of the station's HELD slots was queued
before it. -/
theorem oldestHeld_some {s : State} {id : StationId} {i : Fin 16} (h : oldestHeld s id = some i) :
    ∃ d, slotState s i = .held d ∧ d.station = id ∧
      ∀ j e, slotState s j = .held e → e.station = id → d.order ≤ e.order := by
  obtain ⟨hi, hmin⟩ := firstMin_some _ h
  obtain ⟨d, hd, hid⟩ := mem_heldSlots.mp hi
  refine ⟨d, hd, hid, fun j e he hej => ?_⟩
  have hle := hmin j (mem_heldSlots.mpr ⟨e, he, hej⟩)
  simpa [slotOrder, hd, he, SlotState.downlink] using hle

theorem countStaleConfirm_keepsSlots (n : FirstCopy) (s : State) : KeepsSlots s (countStaleConfirm n s) := by
  rw [countStaleConfirm_frame]
  exact .of_eq rfl rfl rfl rfl

theorem confirmStep_slotInv (n : FirstCopy) {s : State} (hs : SlotInv s) : SlotInv (confirmStep n s) := by
  have hstale : SlotInv (countStaleConfirm n s) := hs.keep (countStaleConfirm_keepsSlots n s)
  have hslot := slotState_countStaleConfirm n s
  unfold confirmStep
  split
  · exact hstale
  · rename_i i _
    split
    · rename_i d hi
      have hi' : slotState (countStaleConfirm n s) i = .awaitConfirm d := (hslot i).trans hi
      split
      · exact reachResult_slotInv _ hs (by rw [hi]; rfl) (by rw [hi]; rfl) (by rw [hi]; rfl)
      · split
        · exact reachResult_slotInv _ hstale (by rw [hi']; rfl) (by rw [hi']; rfl) (by rw [hi']; rfl)
        · have hdown := (slotInv_iff.mp hstale).downlinks
          have hheld : GoesOn (slotState (countStaleConfirm n s) i) (.held d) :=
            goesOn_held (by rw [hi']; rfl) (by rw [hi']; rfl) (by omega)
          exact setSlot_slotInv hstale (hdown.goesOn hheld) (by rw [hi']; rfl) (by rw [hi']; rfl)
            (by rw [hi']; exact nofun)
    · rename_i d o c hi
      exact withSlot_held_slotInv hstale ((hslot i).trans hi)
    · exact hs.keep ((countStaleConfirm_keepsSlots n _).from_eq rfl rfl rfl rfl)
    all_goals exact hs

/-- R76, R77: the HELD slot that is armed is the oldest of a station with no active slot. -/
theorem armSlot_slotInv {i : Fin 16} {d : Downlink} {n : FirstCopy} (e : Settings) {s : State} (hs : SlotInv s)
    (hi : slotState s i = .held d) (hnone : NoneActive s d.station)
    (hfirst : ∀ j e, slotState s j = .held e → e.station = d.station → d.order ≤ e.order) :
    SlotInv (armSlot i d n e s) := by
  have hdown := (slotInv_iff.mp hs).downlinks
  have hfits := hdown.arms (windowOpenOf n e) (windowCloseOf n e) hi
    (fun j f ha hf hid => hnone j ⟨isOf_iff_downlink.mpr ⟨f, hf, hid⟩, ha⟩) hfirst
  have harmed : SlotInv (setSlot i (.armed d (windowOpenOf n e) (windowCloseOf n e)) s) :=
    setSlot_slotInv hs hfits (by rw [hi]; rfl) (by rw [hi]; rfl) (by rw [hi]; exact nofun)
  have hslot : slotState (setSlot i (.armed d (windowOpenOf n e) (windowCloseOf n e)) s) i =
      .armed d (windowOpenOf n e) (windowCloseOf n e) := by rw [slotState_setSlot, if_pos rfl]
  unfold armSlot
  dsimp only
  split
  · exact missWindow_slotInv harmed hslot
  · split
    · exact offerSlot_slotInv harmed ⟨_, _, _, hslot⟩
    · exact harmed

theorem armStep_slotInv (n : FirstCopy) {s : State} (hs : SlotInv s) : SlotInv (armStep n s) := by
  unfold armStep
  split
  · exact hs
  · split
    · rename_i hcond
      split
      · exact hs
      · rename_i i ho
        obtain ⟨d, hd, hid, hfirst⟩ := oldestHeld_some ho
        rw [hd]
        have hnone : NoneActive s d.station := by
          rw [hid, ← activeSlot_none, ← Option.isNone_iff_eq_none]
          exact ((Bool.and_eq_true _ _).mp hcond).2
        exact armSlot_slotInv _ hs hd hnone (by rwa [hid])
    · exact hs

theorem notifyStore_slotInv (n : FirstCopy) {s : State} (hs : SlotInv s) : SlotInv (notifyStore n s) :=
  armStep_slotInv n (confirmStep_slotInv n hs)

theorem discardSlot_slotInv (id : StationId) {s : State} (i : Fin 16) (hs : SlotInv s) :
    SlotInv (discardSlot id s i) := by
  unfold discardSlot
  split
  case h_4 | h_5 | h_6 => exact hs
  all_goals
    rename_i hi
    split
    · exact reachResult_slotInv _ hs (by rw [hi]; rfl) (by rw [hi]; rfl) (by rw [hi]; rfl)
    · exact hs

theorem discardClaim_slotInv (id : StationId) {s : State} (hs : SlotInv s) : SlotInv (discardClaim id s) := by
  unfold discardClaim
  generalize List.finRange 16 = l
  induction l generalizing s with
  | nil => exact hs
  | cons i l ih => exact ih (discardSlot_slotInv id i hs)

/-! ## Items that leave the stream -/

/-- R89: the slots of released items go to FREE, and those of the items that stay keep theirs. -/
theorem releaseItems_agree (its : List Item) (l : List (Fin 16)) {s : State}
    (h : SlotsAgree (slotState s) s.ftx (slotsOf its ++ l)) :
    SlotsAgree (slotState (its.foldl releaseItem s)) s.ftx l := by
  induction its generalizing s with
  | nil => exact h
  | cons it its ih =>
    cases it with
    | telegram t => exact ih (s := s) h
    | outcome o =>
      refine ih (s := freeSlot o.slot s) ?_
      obtain ⟨hdown, hkeyed, hcand, hrep, hlines, hmark⟩ := h
      have hreporting : (slotState s o.slot).isReporting = true := (hrep.1 o.slot).mpr List.mem_cons_self
      have hslots : slotState (freeSlot o.slot s) = Function.update (slotState s) o.slot .free :=
        slotState_setSlot_eq _ _ s
      have hsend : (slotState s o.slot).isSending = false := by
        cases hi : slotState s o.slot with
        | reporting d r time => rfl
        | _ => rw [hi] at hreporting; cases hreporting
      rw [hslots]
      exact
        { downlinks := hdown.update (hdown.goesOn (goesOn_free _))
          keyed := hkeyed.update hsend.symm
          candidates := hcand.update (by rintro d o' c ha; rw [ha] at hreporting; cases hreporting)
          reported := hrep.release
          lines := hlines
          mark := hmark }

/-- R89: items leave the stream, and with them their slots. -/
theorem released_slotInv (its : List Item) {s t : State} (hs : SlotInv s) (hd : t.dls.places = s.dls.places)
    (hx : t.ftx = s.ftx) (ho : (outcomeSlots s).Perm (slotsOf its ++ outcomeSlots t)) :
    SlotInv (its.foldl releaseItem t) := by
  have hslots : slotState t = slotState s := by funext i; unfold slotState; rw [hd]
  have hagree : SlotsAgree (slotState t) t.ftx (slotsOf its ++ outcomeSlots t) := by
    obtain ⟨hdown, hkeyed, hcand, hrep, hlines, hmark⟩ := slotInv_iff.mp hs
    rw [hslots, hx]
    exact ⟨hdown, hkeyed, hcand, hrep.perm ho, hlines, hmark⟩
  have hreleased := releaseItems_agree its _ hagree
  obtain ⟨places, hframe⟩ := releaseItems_frame its t
  rw [hframe] at hreleased ⊢
  exact slotInv_iff.mpr hreleased

theorem removeAcked_slotInv (a : Nat) {s : State} (hs : SlotInv s) : SlotInv (removeAcked a s) := by
  refine released_slotInv _ hs rfl rfl (List.Perm.of_eq ?_)
  have hwindow : s.dst.window.map SentItem.item =
      (s.dst.window.take a).map SentItem.item ++ (s.dst.window.drop a).map SentItem.item := by
    rw [← List.map_append, List.take_append_drop]
  rw [outcomeSlots_eq, outcomeSlots_eq, hwindow, slotsOf_append, List.append_assoc]

theorem takeAck_slotInv (n : Byte) {s : State} (hs : SlotInv s) : SlotInv (takeAck n s) := by
  have hremoved : SlotInv (removeAcked (ackCount s.dst n) s) := removeAcked_slotInv _ hs
  unfold takeAck
  split
  · dsimp only
    split
    · split
      · exact hremoved
      · exact hremoved.keep (.of_eq rfl rfl rfl rfl)
    · refine hremoved.keep ⟨rfl, rfl, ?_⟩
      rw [outcomeSlots_eq, outcomeSlots_eq]
      exact congrArg (slotsOf · ++ _) (markAll_items _)
  · exact hs.keep (.of_eq rfl rfl rfl rfl)

/-- R127: marking the window leaves its items. -/
theorem timerExpires_keepsSlots (s : State) : KeepsSlots s (timerExpires s) := by
  unfold timerExpires
  dsimp only
  split
  · refine ⟨rfl, rfl, ?_⟩
    rw [outcomeSlots_eq, outcomeSlots_eq]
    exact congrArg (slotsOf · ++ _) (markAll_items _)
  · rw [raise_frame]
    exact .of_eq rfl rfl rfl rfl

/-- R120: a send moves an item within the stream, or none. -/
theorem streamSend_keepsSlots {s t : State} {x : Byte × Item} (h : streamSend s = some (x, t)) :
    KeepsSlots s t := by
  unfold streamSend at h
  split at h
  · obtain ⟨-, rfl⟩ := Prod.mk.inj (Option.some.inj h)
    rw [startTimer_eq]
    refine ⟨rfl, rfl, ?_⟩
    rw [outcomeSlots_eq, outcomeSlots_eq]
    exact congrArg (slotsOf · ++ _) (clearFirstPending_items _).1
  · split at h
    · cases h
    · rename_i it rest hw
      obtain ⟨-, rfl⟩ := Prod.mk.inj (Option.some.inj h)
      rw [startTimer_eq]
      refine ⟨rfl, rfl, ?_⟩
      rw [outcomeSlots_eq, outcomeSlots_eq, ← slotsOf_append, ← slotsOf_append]
      simp [hw]

theorem takeFrame_keepsSlots (s : State) : KeepsSlots s (takeFrame s) := by
  have hstream : KeepsSlots s (sendStream s) := by
    unfold sendStream
    split
    · exact .refl s
    · rename_i h
      exact (streamSend_keepsSlots h).trans (.of_eq rfl rfl rfl rfl)
  unfold takeFrame
  split
  · exact hstream
  · split
    · exact .of_eq rfl rfl rfl rfl
    · split
      · exact .of_eq rfl rfl rfl rfl
      · exact .ite hstream (.refl s)

theorem senderDecides_keepsSlots (s : State) : KeepsSlots s (senderDecides s) := by
  unfold senderDecides
  split
  · exact .refl s
  · exact takeFrame_keepsSlots s

/-- R129: a session close returns the window to the head of the waiting queue. -/
theorem streamClose_keepsSlots (s : State) : KeepsSlots s (streamClose s) :=
  ⟨rfl, rfl, rfl⟩

theorem closeSession_keepsSlots (s : State) : KeepsSlots s (closeSession s) := by
  have habort : ∀ t : State, KeepsSlots t (abortLine t) := by
    intro t
    unfold abortLine
    split
    · exact .refl t
    · exact .ite (.of_eq rfl rfl rfl rfl) (.refl t)
  unfold closeSession
  split
  · exact .refl s
  · refine KeepsSlots.trans ?_ (habort _)
    exact (streamClose_keepsSlots _).from_eq rfl rfl rfl rfl

/-- R130: at FRESH the waiting items are discarded, and the slots of their OUTCOME items go to FREE. -/
theorem streamOpen_slotInv (mode : OpenMode) {s : State} (hs : SlotInv s) : SlotInv (streamOpen mode s) := by
  cases mode with
  | resume => exact hs.keep (.of_eq rfl rfl rfl rfl)
  | fresh =>
    refine (released_slotInv s.dst.waiting hs (t := { s with
      dst.waiting := []
      dst.counters.droppedAtFresh :=
        bumpBy (s.dst.waiting.countP Item.isTelegram) s.dst.counters.droppedAtFresh }) rfl rfl ?_).keep
      (.of_eq rfl rfl rfl rfl)
    rw [outcomeSlots_eq, outcomeSlots_eq]
    exact List.perm_append_comm.trans (List.Perm.of_eq (congrArg _ (List.append_nil _).symm))

theorem openSession_slotInv (mode : OpenMode) {s : State} (hs : SlotInv s) : SlotInv (openSession mode s) := by
  have hopened : ∀ {t : State}, SlotInv t → SlotInv (openClosedSession mode t) := by
    intro t ht
    have hstream := streamOpen_slotInv mode (ht.keep (t := { t with
      trk.session := .opened none
      trk.streamWait := 0
      trk.counters.opens := bump t.trk.counters.opens }) (.of_eq rfl rfl rfl rfl))
    unfold openClosedSession
    dsimp only
    rw [joinAllNotices_frame]
    exact hstream.keep (.of_eq rfl rfl rfl rfl)
  exact hopened (hs.keep (closeSession_keepsSlots s))

theorem engineReleased_slotInv {s : State} (hs : SlotInv s) : SlotInv (engineReleased s) := by
  unfold engineReleased
  split
  · exact hs
  · exact hs.keep (.of_eq rfl rfl rfl rfl)
  · exact (warmRestart_slotInv hs).keep (.of_eq rfl rfl rfl rfl)

theorem frameEnds_slotInv {s : State} (hs : SlotInv s) : SlotInv (frameEnds s) := by
  unfold frameEnds
  split
  · exact hs
  · dsimp only
    split
    · split
      · exact engineReleased_slotInv (hs.keep ((closeSession_keepsSlots _).from_eq rfl rfl rfl rfl))
      · exact hs.keep (.of_eq rfl rfl rfl rfl)
    all_goals exact hs.keep (.of_eq rfl rfl rfl rfl)

theorem idleTimeout_slotInv {s : State} (hs : SlotInv s) : SlotInv (idleTimeout s) := by
  have hclosed : SlotInv (closeSession s) := hs.keep (closeSession_keepsSlots s)
  have hemptied := hclosed.keep (t := { closeSession s with
    trk.responses := []
    trk.counters.idleCloses := bump (closeSession s).trk.counters.idleCloses }) (.of_eq rfl rfl rfl rfl)
  unfold idleTimeout
  dsimp only
  split
  · exact engineReleased_slotInv hemptied
  · exact hemptied

end Sys2Proof.Machine

namespace Sys2Proof.Machine

/-! ## Records and copies -/

theorem raise_keepsSlots (c : Cause) (s : State) : KeepsSlots s (raise c s) := by
  rw [raise_frame]; exact .of_eq rfl rfl rfl rfl

/-- R115, R116: a TELEGRAM item adds no OUTCOME item. -/
theorem offerTelegram_keepsSlots (t : TelegramItem) (s : State) : KeepsSlots s (offerTelegram t s) := by
  by_cases h : 24 ≤ s.dst.telegramCount
  · rw [offerTelegram_lost h]
    exact (raise_keepsSlots _ _).from_eq rfl rfl rfl rfl
  · rw [offerTelegram_taken (Nat.not_le.mp h)]
    refine ⟨rfl, rfl, ?_⟩
    rw [outcomeSlots_eq, outcomeSlots_eq, slotsOf_placeTelegram]

theorem closeRecord_keepsSlots (r : Record) (b : Bool) (s : State) : KeepsSlots s (closeRecord r b s) :=
  (offerTelegram_keepsSlots _ _).from_eq rfl rfl rfl rfl

theorem dropRecord_keepsSlots (id : StationId) (q : Byte) (s : State) : KeepsSlots s (dropRecord id q s) :=
  .of_eq rfl rfl rfl rfl

theorem makePlace_keepsSlots (s : State) : KeepsSlots s (makePlace s) := by
  have hcounted : ∀ t : State, KeepsSlots t
      (raise .rtlPressure { t with rpf.counters.evictions := bump t.rpf.counters.evictions }) :=
    fun t => (raise_keepsSlots _ _).from_eq rfl rfl rfl rfl
  unfold makePlace
  dsimp only
  split
  · exact (dropRecord_keepsSlots _ _ _).trans (hcounted _)
  · split
    · exact .refl s
    · exact ((closeRecord_keepsSlots _ _ _).trans (dropRecord_keepsSlots _ _ _)).trans (hcounted _)

theorem closureClaim_keepsSlots (id : StationId) (s : State) : KeepsSlots s (closureClaim id s) := by
  have hitems : ∀ (l : List Record) (t : State),
      KeepsSlots t (l.foldl (fun t r => offerTelegram (recordItem r none true) t) t) := by
    intro l
    induction l with
    | nil => exact .refl
    | cons r l ih => exact fun t => (offerTelegram_keepsSlots _ _).trans (ih _)
  exact (hitems _ _).from_eq rfl rfl rfl rfl

theorem learn_keepsSlots (id : StationId) (s : State) : KeepsSlots s (learn id s).1 := by
  obtain ⟨_, _, _, _, _, h⟩ := learn_frame id s
  rw [h]; exact .of_eq rfl rfl rfl rfl

theorem accept_slotInv (c : Copy) (check : Word16) (e : Option Entry) {s : State} (hs : SlotInv s) :
    SlotInv (accept c check e s) := by
  have hroom : ∀ t, KeepsSlots t (makeRoom t) := fun t => .ite (makePlace_keepsSlots t) (.refl t)
  have hproduce : ∀ r t, KeepsSlots t (produceNow r t) := fun r t =>
    .ite (.refl t) (offerTelegram_keepsSlots _ t)
  rw [accept_eq]
  dsimp only
  have hroomed : SlotInv (makeRoom { s with rpf.counters.accepted := bump s.rpf.counters.accepted }) :=
    hs.keep ((hroom { s with rpf.counters.accepted := bump s.rpf.counters.accepted }).from_eq rfl rfl rfl rfl)
  have hrecord : ∀ t, KeepsSlots t (addRecord (newRecord c check e s.stab) t) := fun t => .of_eq rfl rfl rfl rfl
  have hadded := (hroomed.keep (hrecord _)).keep (hproduce (newRecord c check e s.stab) _)
  split
  · exact notifyStore_slotInv _ hadded
  · exact hadded

theorem takeJudged_slotInv (c : Copy) (check : Word16) (i : Fin 64) (e : Entry) {s : State} (hs : SlotInv s) :
    SlotInv (takeJudged c check i e s) := by
  unfold takeJudged
  split
  · exact accept_slotInv _ _ _ (hs.keep (.of_eq rfl rfl rfl rfl))
  all_goals exact hs.keep (.of_eq rfl rfl rfl rfl)

theorem afterLookup_slotInv (c : Copy) (e : Option (Fin 64 × Entry)) {s : State} (hs : SlotInv s) :
    SlotInv (afterLookup c e s) := by
  unfold afterLookup
  dsimp only
  split
  · split
    · rw [takeDuplicate_eq]; exact hs.keep (.of_eq rfl rfl rfl rfl)
    · exact hs.keep (.of_eq rfl rfl rfl rfl)
  · split
    · exact takeJudged_slotInv _ _ _ _ hs
    · exact accept_slotInv _ _ _ hs

theorem handleCopy_slotInv (c : Copy) {s : State} (hs : SlotInv s) : SlotInv (handleCopy c s) := by
  unfold handleCopy
  split
  · split
    · exact hs.keep (.of_eq rfl rfl rfl rfl)
    all_goals exact afterLookup_slotInv _ _ hs
  · split
    · exact hs.keep (.of_eq rfl rfl rfl rfl)
    · exact afterLookup_slotInv _ _ hs
    · exact afterLookup_slotInv _ _ (hs.keep (learn_keepsSlots _ _))

/-! ## The receivers -/

/-- A receiver holds nothing of the slots. -/
theorem setReceiver_keepsSlots (ch : Channel) (r : Receiver) (s : State) : KeepsSlots s (setReceiver ch r s) :=
  .of_eq (by simp) (by simp) (by simp) (by simp)

theorem setRxState_keepsSlots (ch : Channel) (st : RxState) (s : State) : KeepsSlots s (setRxState ch st s) :=
  setReceiver_keepsSlots ch _ s

theorem losePreamble_keepsSlots (ch : Channel) (s : State) : KeepsSlots s (losePreamble ch s) := by
  rw [losePreamble_eq]; exact setReceiver_keepsSlots _ _ s

theorem missSync_keepsSlots (ch : Channel) (s : State) : KeepsSlots s (missSync ch s) := by
  rw [missSync_eq]; exact setReceiver_keepsSlots _ _ s

theorem bodyError_keepsSlots (ch : Channel) (e : BodyError) (s : State) : KeepsSlots s (bodyError ch e s) := by
  have hreport : ∀ t, KeepsSlots t (reportReceiverError t) := fun t =>
    .ite ((raise_keepsSlots _ _).from_eq rfl rfl rfl rfl) (.of_eq rfl rfl rfl rfl)
  rw [bodyError_eq]
  exact (setReceiver_keepsSlots _ _ s).trans (hreport _)

theorem violation_keepsSlots (ch : Channel) (s : State) : KeepsSlots s (violation ch s) := by
  unfold violation
  split
  case h_1 => exact .refl s
  case h_5 => exact bodyError_keepsSlots _ _ _
  all_goals exact losePreamble_keepsSlots _ _

theorem setProgress_keepsSlots (ch : Channel) (p : CellProgress) (s : State) :
    KeepsSlots s (setProgress ch p s) := by
  unfold setProgress
  split
  case h_1 | h_2 => exact .refl s
  all_goals exact setRxState_keepsSlots _ _ _

theorem setEnable_keepsSlots (ch : Channel) (on : Bool) (s : State) : KeepsSlots s (setEnable ch on s) := by
  unfold setEnable
  dsimp only
  rw [enableReceiver_eq, disableReceiver_eq]
  have hset : ∀ t : State, KeepsSlots t (if on then setReceiver ch (receiver t ch).enable t
      else setReceiver ch (receiver t ch).disable t) := fun t =>
    .ite (setReceiver_keepsSlots _ _ t) (setReceiver_keepsSlots _ _ t)
  cases ch <;> exact (hset _).from_eq rfl rfl rfl rfl

theorem handOver_slotInv (c : Copy) {s : State} (hs : SlotInv s) : SlotInv (handOver c s) := by
  refine handleCopy_slotInv c (hs.keep ?_)
  rw [toHunt_countRx]
  exact setReceiver_keepsSlots _ _ s

theorem slotInv_ite {p : Prop} [Decidable p] {s t : State} (hs : SlotInv s) (ht : SlotInv t) :
    SlotInv (if p then s else t) := by
  split <;> assumption

theorem endTelegram_slotInv (ch : Channel) (t : Tracking) (bytes : List Byte) (reg : Word16) {s : State}
    (hs : SlotInv s) : SlotInv (endTelegram ch t bytes reg s) := by
  unfold endTelegram
  dsimp only
  split
  · exact hs.keep (bodyError_keepsSlots _ _ _)
  · split
    · exact hs.keep (bodyError_keepsSlots _ _ _)
    · exact handOver_slotInv _ hs

theorem decodedCell_slotInv (ch : Channel) (bit soft : Bool) (time : Nat) {s : State} (hs : SlotInv s) :
    SlotInv (decodedCell ch bit soft time s) := by
  have hset : ∀ st, SlotInv (setRxState ch st s) := fun st => hs.keep (setRxState_keepsSlots _ _ _)
  have hlost : SlotInv (losePreamble ch s) := hs.keep (losePreamble_keepsSlots _ _)
  cases hst : rxState s ch with
  | disabled => rwa [decodedCell_disabled hst]
  | hunt c => rw [decodedCell_hunt hst]; exact hset _
  | preamble t n => rw [decodedCell_preamble hst]; exact slotInv_ite hlost (hset _)
  | sync t w fs n =>
    rw [decodedCell_sync hst]
    exact slotInv_ite (hset _) (slotInv_ite (hs.keep (missSync_keepsSlots _ _)) (hset _))
  | body t bytes cur nbits reg =>
    rw [decodedCell_body hst]
    exact slotInv_ite (hset _) (slotInv_ite (hs.keep (bodyError_keepsSlots _ _ _))
      (slotInv_ite (endTelegram_slotInv _ _ _ _ hs) (hset _)))

theorem applyVerdict_slotInv (ch : Channel) (v : CellVerdict) {s : State} (hs : SlotInv s) :
    SlotInv (applyVerdict ch v s) := by
  cases v with
  | waiting p => exact hs.keep (setProgress_keepsSlots _ _ _)
  | cell bit soft ref => exact decodedCell_slotInv _ _ _ _ hs
  | violation => exact hs.keep (violation_keepsSlots _ _)

theorem lineQuiet_slotInv (ch : Channel) (time : Nat) {s : State} (hs : SlotInv s) :
    SlotInv (lineQuiet ch time s) := by
  have honce : ∀ {t : State}, SlotInv t → SlotInv (quietOnce ch time t) := by
    intro t ht
    unfold quietOnce
    split
    · exact ht
    · exact applyVerdict_slotInv _ _ ht
  exact honce (honce hs)

theorem lineEdge_slotInv (ch : Channel) (rising : Bool) (time : Nat) {s : State} (hs : SlotInv s) :
    SlotInv (lineEdge ch rising time s) := by
  have hquiet : SlotInv (lineQuiet ch (time - 1) s) := lineQuiet_slotInv _ _ hs
  have hset : ∀ st, SlotInv (setRxState ch st (lineQuiet ch (time - 1) s)) := fun st =>
    hquiet.keep (setRxState_keepsSlots _ _ _)
  have hanchor : SlotInv (anchorEdge ch rising time (lineQuiet ch (time - 1) s)) := by
    unfold anchorEdge
    dsimp only
    split
    · exact slotInv_ite hquiet (decodedCell_slotInv _ _ _ _ hquiet)
    · exact hset _
    · exact slotInv_ite (hset _) hquiet
  unfold lineEdge
  dsimp only
  split
  case h_1 => exact hquiet
  case h_2 => exact hanchor
  all_goals
    split
    · exact hquiet
    · exact applyVerdict_slotInv _ _ hquiet

/-! ## Requests -/

/-- R175, R207: a parameter is set to a value in its range. -/
theorem setParam_slotInv {p : Param} {v : Nat} {s : State} (hs : SlotInv s) (hv : p.inRange v = true) :
    SlotInv (setParam p v s) := by
  have hmark : s.ftx.params.BeginWithMark := (slotInv_iff.mp hs).mark
  cases p
  case txTickUs | txCode | txSync => exact hs.setTxParams hmark
  case txHalfBitTicks => exact hs.setTxParams ⟨(of_decide_eq_true hv).1, hmark.2⟩
  case txPreambleBits =>
    have hrange : 8 ≤ v ∧ v ≤ 64 := of_decide_eq_true hv
    exact hs.setTxParams ⟨hmark.1, by show 1 ≤ v; omega⟩
  case rxEnableA => exact hs.keep (setEnable_keepsSlots _ _ _)
  case rxEnableB => exact hs.keep (setEnable_keepsSlots _ _ _)
  case sessionIdleS =>
    obtain ⟨_, h⟩ := restartIdle_frame { s with trk.sessionIdleS := v }
    unfold setParam
    rw [h]; exact hs.keep (.of_eq rfl rfl rfl rfl)
  case level c =>
    show SlotInv (setLevel c v s)
    rw [setLevel_eq]; exact hs.keep (.of_eq rfl rfl rfl rfl)
  all_goals exact hs.keep (.of_eq rfl rfl rfl rfl)

/-- R73: the downlink a QUEUE-DOWNLINK makes. -/
def queuedDownlink (e : Entry) (hostTag : Byte) (attempts lifetimeS : Nat) (payload : List Byte) (s : State) :
    Downlink :=
  { station := e.station, hostTag := hostTag, sequence := e.nextDownlinkSeq, payload := payload,
    attemptsLeft := attempts, transmissions := 0, lifetimeDeadline := after s.now (lifetimeS * 1000),
    order := nextOrder s }

/-- R73: the place it fills is HELD, every other stays. -/
theorem slotState_queueInto (i : Fin 16) (j : Fin 64) (e : Entry) (hostTag : Byte) (attempts lifetimeS : Nat)
    (payload : List Byte) (s : State) :
    slotState (queueInto i j e hostTag attempts lifetimeS payload s) =
      Function.update (slotState s) i (.held (queuedDownlink e hostTag attempts lifetimeS payload s)) := by
  funext k
  rw [Function.update_apply]
  show ((s.dls.places.set i
    { generation := (s.dls.places[i]).generation + 1
      state := .held (queuedDownlink e hostTag attempts lifetimeS payload s) })[k]).state = _
  rw [vector_set_fin]
  split <;> rfl

/-- R73: a downlink within its station's limit fills a FREE place. -/
theorem queueInto_slotInv {i : Fin 16} {j : Fin 64} {e : Entry} {hostTag : Byte} {attempts lifetimeS : Nat}
    {payload : List Byte} {s : State} (hs : SlotInv s) (hi : slotState s i = .free)
    (hlimit : slotCount s e.station < 4) (hattempts : 1 ≤ attempts ∧ attempts ≤ 8) :
    SlotInv (queueInto i j e hostTag attempts lifetimeS payload s) := by
  obtain ⟨hdown, hkeyed, hcand, hrep, hlines, hmark⟩ := slotInv_iff.mp hs
  have hfits : SlotFits (slotState s) i (.held (queuedDownlink e hostTag attempts lifetimeS payload s)) :=
    DownlinksSound.queues hlimit hattempts fun k f hf => order_lt_nextOrder hf
  rw [slotInv_iff, slotState_queueInto]
  exact
    { downlinks := hdown.update hfits
      keyed := hkeyed.update (by rw [hi]; rfl)
      candidates := hcand.update (by rw [hi]; exact nofun)
      reported := hrep.update (by rw [hi]; rfl)
      lines := hlines
      mark := hmark }

theorem queueDownlink_slotInv {id : StationId} {hostTag : Byte} {attempts lifetimeS : Nat} {payload : List Byte}
    {s : State} (hs : SlotInv s) (hattempts : 1 ≤ attempts ∧ attempts ≤ 8) :
    SlotInv (queueDownlink id hostTag attempts lifetimeS payload s).2 := by
  unfold queueDownlink
  split
  · exact hs
  · rename_i hl
    split
    · exact hs
    · split
      · exact hs
      · rename_i hlimit
        split
        · exact hs
        · rename_i i hi
          have hfree : (slotState s i).downlink.isNone = true := by simpa using List.find?_some hi
          refine queueInto_slotInv hs (downlink_isNone.mp hfree) ?_ hattempts
          rw [(lookup_some hl).2]
          exact Nat.not_le.mp hlimit

theorem reqQueueDownlink_slotInv (args : List Byte) {s : State} (hs : SlotInv s) :
    SlotInv (reqQueueDownlink args s).2 := by
  unfold reqQueueDownlink
  split
  · dsimp only
    split
    · exact hs
    · split
      · rename_i hvalid
        obtain ⟨-, -, -, hlow, hhigh, -⟩ := queueArgsValid_iff.mp hvalid
        exact queueDownlink_slotInv hs ⟨hlow, hhigh⟩
      · exact hs
  · exact hs

theorem reqOpenSession_slotInv (args : List Byte) {s : State} (hs : SlotInv s) :
    SlotInv (reqOpenSession args s).2 := by
  unfold reqOpenSession
  split
  · split
    · exact hs
    · exact openSession_slotInv _ hs
  · exact hs

theorem reqSetParameter_slotInv (args : List Byte) {s : State} (hs : SlotInv s) :
    SlotInv (reqSetParameter args s).2 := by
  unfold reqSetParameter
  split
  · exact hs
  · split
    · exact hs
    · split
      · exact hs
      · split
        · exact hs
        · exact setParam_slotInv hs (by simpa using ‹¬ (!_) = true›)

theorem reqPutStation_slotInv (args : List Byte) {s : State} (hs : SlotInv s) :
    SlotInv (reqPutStation args s).2 := by
  have hput : ∀ id settings, SlotInv (putStation id settings s).2 := by
    intro id settings
    unfold putStation
    split
    · exact hs.keep (.of_eq rfl rfl rfl rfl)
    · split
      · exact hs
      · exact hs.keep (.of_eq rfl rfl rfl rfl)
  rcases reqPutStation_cases args s with ⟨st, h⟩ | ⟨id, settings, h⟩
  · rw [h]; exact hs
  · rw [h]; exact hput _ _

theorem dropStation_slotInv (i : Fin 64) (id : StationId) {s : State} (hs : SlotInv s) :
    SlotInv (dropStation i id s) :=
  have hplace : SlotInv (setPlace i none s) := hs.keep (.of_eq rfl rfl rfl rfl)
  discardClaim_slotInv id (hplace.keep (closureClaim_keepsSlots id (setPlace i none s)))

theorem reqDropStation_slotInv (args : List Byte) {s : State} (hs : SlotInv s) :
    SlotInv (reqDropStation args s).2 := by
  unfold reqDropStation
  split
  · dsimp only
    split
    · exact hs
    · split
      · exact hs
      · split
        · exact hs
        · rw [done_snd]; exact dropStation_slotInv _ _ hs
  · exact hs

theorem reqCancelDownlink_slotInv (args : List Byte) {s : State} (hs : SlotInv s) :
    SlotInv (reqCancelDownlink args s).2 := by
  have hcancel : ∀ i, SlotInv (cancelSlot i s).2 := by
    intro i
    unfold cancelSlot
    split
    case h_1 | h_5 | h_6 => exact hs
    all_goals
      rename_i hi
      exact reachResult_slotInv _ hs (by rw [hi]; rfl) (by rw [hi]; rfl) (by rw [hi]; rfl)
  unfold reqCancelDownlink
  split
  · split
    · exact hs
    · exact hs
    · exact hcancel _
  · exact hs

theorem reqCarrierTest_slotInv (args : List Byte) {s : State} (hs : SlotInv s) :
    SlotInv (reqCarrierTest args s).2 := by
  have htest : ∀ ms, SlotInv (carrierTest ms s).2 := by
    intro ms
    unfold carrierTest
    dsimp only
    split
    case h_1 hx =>
      exact startTest_slotInv _ (hs.countTransmit _) (by show s.ftx.state.Quiet; rw [hx]; exact TxState.quiet_idle)
    case h_2 d hx => exact startTest_slotInv _ hs (by rw [hx]; exact TxState.quiet_testing d)
    all_goals exact hs
  unfold reqCarrierTest
  split
  · split
    · exact htest _
    · exact hs
  · exact hs

theorem endTest_slotInv {s : State} (hs : SlotInv s) (hx : s.ftx.state.Quiet) : SlotInv (endTest s) :=
  arbiter_slotInv (goIdle_slotInv hs hx)

theorem reqCarrierStop_slotInv (args : List Byte) {s : State} (hs : SlotInv s) :
    SlotInv (reqCarrierStop args s).2 := by
  unfold reqCarrierStop
  split
  · split
    · rename_i d hx
      exact endTest_slotInv hs (by rw [hx]; exact TxState.quiet_testing d)
    all_goals exact hs
  · exact hs

theorem reqClearCause_slotInv (args : List Byte) {s : State} (hs : SlotInv s) :
    SlotInv (reqClearCause args s).2 := by
  unfold reqClearCause
  split
  · split
    · exact hs
    · exact hs.keep (.of_eq rfl rfl rfl rfl)
  · exact hs

theorem reqClearCounters_slotInv (args : List Byte) {s : State} (hs : SlotInv s) :
    SlotInv (reqClearCounters args s).2 := by
  unfold reqClearCounters
  split
  · split
    · exact hs
    · rename_i g _
      cases g
      case transmit => exact hs.countTransmit _
      all_goals exact hs.keep (.of_eq rfl rfl rfl rfl)
  · exact hs

theorem slotInv_reply_ite {p : Prop} [Decidable p] {x y : Reply × State} (hx : SlotInv x.2) (hy : SlotInv y.2) :
    SlotInv (if p then x else y).2 := by
  split <;> assumption

/-- R167: carrying out a request keeps the invariant of the slots. -/
theorem carryOut_slotInv (code : Byte) (args : List Byte) {s : State} (hs : SlotInv s) :
    SlotInv (carryOut code args s).2 := by
  have hclose : SlotInv (reqCloseSession args s).2 := by
    unfold reqCloseSession; split
    · exact hs.keep (.of_eq rfl rfl rfl rfl)
    · exact hs
  have hrestart : SlotInv (reqWarmRestart args s).2 := by
    unfold reqWarmRestart; split
    · exact hs.keep (.of_eq rfl rfl rfl rfl)
    · exact hs
  have hstatus : SlotInv (reqGetStatus args s).2 := by rw [reqGetStatus_snd]; exact hs
  have hget : SlotInv (reqGetParameter args s).2 := by rw [reqGetParameter_snd]; exact hs
  have hstation : SlotInv (reqGetStation args s).2 := by rw [reqGetStation_snd]; exact hs
  have hlist : SlotInv (reqListStations args s).2 := by rw [reqListStations_snd]; exact hs
  have hdownlink : SlotInv (reqGetDownlink args s).2 := by rw [reqGetDownlink_snd]; exact hs
  have hcauses : SlotInv (reqGetCauses args s).2 := by rw [reqGetCauses_snd]; exact hs
  have hcounters : SlotInv (reqGetCounters args s).2 := by rw [reqGetCounters_snd]; exact hs
  unfold carryOut
  exact slotInv_reply_ite (reqOpenSession_slotInv _ hs) (slotInv_reply_ite hclose (slotInv_reply_ite hstatus
    (slotInv_reply_ite hrestart (slotInv_reply_ite (reqSetParameter_slotInv _ hs) (slotInv_reply_ite hget
    (slotInv_reply_ite (reqPutStation_slotInv _ hs) (slotInv_reply_ite (reqDropStation_slotInv _ hs)
    (slotInv_reply_ite hstation (slotInv_reply_ite hlist (slotInv_reply_ite (reqQueueDownlink_slotInv _ hs)
    (slotInv_reply_ite (reqCancelDownlink_slotInv _ hs) (slotInv_reply_ite hdownlink (slotInv_reply_ite hcauses
    (slotInv_reply_ite (reqClearCause_slotInv _ hs) (slotInv_reply_ite hcounters
    (slotInv_reply_ite (reqClearCounters_slotInv _ hs) (slotInv_reply_ite (reqCarrierTest_slotInv _ hs)
      (reqCarrierStop_slotInv _ hs))))))))))))))))))

/-! ## The closing of an event -/

theorem takeIn_slotInv (q : HeldRequest) {s : State} (hs : SlotInv s) : SlotInv (takeIn q s) := by
  have hrecord : ∀ (r : Response) (t : State), KeepsSlots t (recordResponse r t) := fun r t =>
    .ite (.refl t) (.of_eq rfl rfl rfl rfl)
  have hrecorded : ∀ (r : Response) (b : Bool) (t : State), KeepsSlots t (pushResponse r b (recordResponse r t)) :=
    fun r b t => (hrecord r t).trans (KeepsSlots.of_eq (s := recordResponse r t) rfl rfl rfl rfl)
  unfold takeIn
  split
  · exact hs.keep (.of_eq rfl rfl rfl rfl)
  · rename_i code args _
    split
    · exact hs.keep (.of_eq rfl rfl rfl rfl)
    · have hjudged : SlotInv (judgeRequest code args s).2 :=
        slotInv_reply_ite hs (slotInv_reply_ite hs (carryOut_slotInv code args hs))
      exact hjudged.keep (hrecorded _ _ _)

theorem intakes_slotInv (n : Nat) {s : State} (hs : SlotInv s) : SlotInv (intakes n s) := by
  induction n generalizing s with
  | zero => exact hs
  | succ n ih =>
    unfold intakes
    split
    · exact hs
    · exact slotInv_ite (ih (takeIn_slotInv _ (hs.keep (.of_eq rfl rfl rfl rfl)))) hs

theorem settle_slotInv {s : State} (hs : SlotInv s) : SlotInv (settle s) :=
  intakes_slotInv _ ((intakes_slotInv _ hs).keep (senderDecides_keepsSlots _))

/-- An event keeps the invariant when its effect does. -/
theorem event_slotInv {f : State → State} (hf : ∀ {s}, SlotInv s → SlotInv (f s)) {s t : State} (hs : SlotInv s)
    (h : event f s = .next t) : SlotInv t := by
  obtain rfl := Host.Outcome.next.inj h
  exact slotInv_ite (settle_slotInv (hf hs)) hs

/-! ## The trunk receiver -/

theorem discardContent_keepsSlots (f : ContentFault) (s : State) : KeepsSlots s (discardContent f s) :=
  (raise_keepsSlots _ _).from_eq rfl rfl rfl rfl

theorem takeLineError_keepsSlots (s : State) : KeepsSlots s (takeLineError s) :=
  (raise_keepsSlots _ _).from_eq rfl rfl rfl rfl

theorem counted_keepsSlots (s : State) : KeepsSlots s (counted s) := by
  obtain ⟨_, h⟩ := counted_frame s
  rw [h]; exact .of_eq rfl rfl rfl rfl

theorem receiveFrame_slotInv (kind tag : Byte) (body : List Byte) {s : State} (hs : SlotInv s) :
    SlotInv (receiveFrame kind tag body s) := by
  have hcounted : SlotInv (counted s) := hs.keep (counted_keepsSlots s)
  have hheld : SlotInv (holdRequest tag body (counted s)) :=
    slotInv_ite (hcounted.keep (.of_eq rfl rfl rfl rfl))
      (hcounted.keep ((raise_keepsSlots _ _).from_eq rfl rfl rfl rfl))
  have hoversize : SlotInv (newContent (discardContent .oversize s)) :=
    hs.keep ((discardContent_keepsSlots _ _).trans (.of_eq rfl rfl rfl rfl))
  have hkind : SlotInv (discardKind (newContent s)) := hs.keep (.of_eq rfl rfl rfl rfl)
  exact slotInv_ite hoversize (slotInv_ite (slotInv_ite (takeAck_slotInv _ hcounted) hkind)
    (slotInv_ite hheld hkind))

theorem endContent_slotInv (content : List Byte) {s : State} (hs : SlotInv s) : SlotInv (endContent content s) := by
  have hdiscarded : ∀ f, SlotInv (discardContent f s) := fun f => hs.keep (discardContent_keepsSlots _ _)
  unfold endContent
  split
  · exact hs.keep (.of_eq rfl rfl rfl rfl)
  · exact slotInv_ite (hdiscarded _) (slotInv_ite (receiveFrame_slotInv _ _ _ hs) (hdiscarded _))
  · exact hdiscarded _

theorem byteEffect_slotInv (b : Byte) {s : State} (hs : SlotInv s) : SlotInv (byteEffect b s) := by
  have hsame : ∀ x, SlotInv { s with trk.assembler := x } := fun x => hs.keep (.of_eq rfl rfl rfl rfl)
  have hdiscarded : ∀ f, SlotInv (discardContent f s) := fun f => hs.keep (discardContent_keepsSlots _ _)
  have hadded : ∀ content c, SlotInv (addContent content c s) := fun content c =>
    slotInv_ite (hdiscarded _) (hsame _)
  unfold byteEffect
  split
  · exact slotInv_ite (hsame _) hs
  · exact slotInv_ite (endContent_slotInv _ hs) (slotInv_ite (hsame _) (hadded _ _))
  · exact slotInv_ite (hadded _ _) (slotInv_ite (hadded _ _) (slotInv_ite (hdiscarded _) (hdiscarded _)))

theorem takeSamples_slotInv (due : Nat → Bool) (n : Nat) {s : State} (hs : SlotInv s) :
    SlotInv (takeSamples due n s) := by
  have hsampled : ∀ x, SlotInv (setSampler x s) := fun x => hs.keep (.of_eq rfl rfl rfl rfl)
  rcases takeSamples_frame due n s with ⟨x, h⟩ | ⟨b, h⟩ | h
  · rw [h]; exact hsampled x
  · rw [h]; exact byteEffect_slotInv b (hsampled _)
  · rw [h]; exact (hsampled _).keep (takeLineError_keepsSlots _)

theorem receiveByte_slotInv (b : Byte) {s : State} (hs : SlotInv s) : SlotInv (receiveByte s b) :=
  settle_slotInv (byteEffect_slotInv b hs)

theorem frameArrives_slotInv (kind tag : Byte) (body : List Byte) {s : State} (hs : SlotInv s) :
    SlotInv (frameArrives kind tag body s) := by
  have hopening : SlotInv (openingDelimiter s) := by
    unfold openingDelimiter
    split
    case h_1 | h_2 => exact hs.keep (.of_eq rfl rfl rfl rfl)
    all_goals exact receiveByte_slotInv _ hs
  exact receiveFrame_slotInv _ _ _ hopening

theorem takeContent_slotInv (c : TrunkContent) {s : State} (hs : SlotInv s) : SlotInv (takeContent c s) := by
  cases c with
  | fault f => exact hs.keep (discardContent_keepsSlots _ _)
  | bytes bs =>
    show SlotInv (bs.foldl receiveByte s)
    induction bs generalizing s with
    | nil => exact hs
    | cons b bs ih => exact ih (receiveByte_slotInv b hs)
  | edge rising time =>
    obtain ⟨x, h⟩ := trunkEdge_frame rising time s
    show SlotInv (trunkEdge rising time s)
    rw [h]; exact (takeSamples_slotInv _ _ hs).keep (.of_eq rfl rfl rfl rfl)
  | quiet time => exact takeSamples_slotInv _ _ hs

/-! ## Every command -/

theorem execCellDecoded_slotInv (ch : Channel) (input : CellInput) {s t : State} (hs : SlotInv s)
    (h : execCellDecoded ch input s = .next t) : SlotInv t := by
  cases input with
  | decided bit soft time => exact event_slotInv (decodedCell_slotInv _ _ _ _) hs h
  | edge rising time => exact event_slotInv (lineEdge_slotInv _ _ _) hs h
  | quiet time => exact event_slotInv (lineQuiet_slotInv _ _) hs h
  | refclk running =>
    obtain rfl := Host.Outcome.next.inj h
    have hruns : SlotInv { s with tbs.refclkRunning := true } := hs.keep (.of_eq rfl rfl rfl rfl)
    refine slotInv_ite ?_ (hs.keep (.of_eq rfl rfl rfl rfl))
    unfold startRefclk
    refine slotInv_ite ?_ (settle_slotInv hruns)
    split
    · exact afterReset_slotInv _ _ _
    · exact hruns

/-- The commands of the receivers that come to a loss, an error or a copy. -/
theorem receiverCommands_slotInv {s t : State} (hs : SlotInv s) :
    (∀ ch, execPreambleLost ch s = .next t → SlotInv t) ∧ (∀ ch, execSyncMissing ch s = .next t → SlotInv t) ∧
      (∀ ch e, execReceiverError ch e s = .next t → SlotInv t) ∧ ∀ c, execCopy c s = .next t → SlotInv t := by
  refine ⟨fun ch h => ?_, fun ch h => ?_, fun ch e => event_slotInv (fun {u} hu => ?_) hs,
    fun c => event_slotInv (fun {u} hu => ?_) hs⟩
  · exact event_slotInv (fun hu => slotInv_ite (hu.keep (losePreamble_keepsSlots _ _)) hu) hs
      ((exec_preambleLost ch s).symm.trans h)
  · exact event_slotInv (fun hu => slotInv_ite (hu.keep (missSync_keepsSlots _ _)) hu) hs
      ((exec_syncMissing ch s).symm.trans h)
  · exact slotInv_ite (hu.keep (bodyError_keepsSlots _ _ _)) hu
  · exact slotInv_ite hu (slotInv_ite (handOver_slotInv _ hu) (hu.keep (bodyError_keepsSlots _ _ _)))

/-- The deadlines of records. -/
theorem recordCommands_slotInv {s t : State} (hs : SlotInv s) :
    (∀ id q, execGatherDeadline id q s = .next t → SlotInv t) ∧
      ∀ id q, execSettleDeadline id q s = .next t → SlotInv t := by
  refine ⟨fun id q => event_slotInv (fun {u} hu => ?_) hs, fun id q => event_slotInv (fun {u} hu => ?_) hs⟩
  · split
    · exact hu
    · split
      · exact hu
      · exact slotInv_ite (hu.keep (closeRecord_keepsSlots _ _ _)) hu
  · split
    · exact hu
    · refine slotInv_ite (SlotInv.keep ?_ (dropRecord_keepsSlots _ _ _)) hu
      exact slotInv_ite (hu.keep (closeRecord_keepsSlots _ _ _)) hu

/-- The deadlines of a slot. -/
theorem slotCommands_slotInv {s t : State} (hs : SlotInv s) :
    (∀ i, execWindowOpen i s = .next t → SlotInv t) ∧ (∀ i, execWindowClose i s = .next t → SlotInv t) ∧
      ∀ i, execLifetimeDeadline i s = .next t → SlotInv t := by
  refine ⟨fun i => event_slotInv (fun {u} hu => ?_) hs, fun i => event_slotInv (fun {u} hu => ?_) hs,
    fun i => event_slotInv (fun {u} hu => ?_) hs⟩
  · split
    · rename_i h
      exact slotInv_ite (offerSlot_slotInv hu ⟨_, _, _, h⟩) hu
    all_goals exact hu
  · split
    · rename_i h
      exact slotInv_ite (missWindow_slotInv hu h) hu
    all_goals exact hu
  · split
    case h_4 | h_5 | h_6 => exact hu
    all_goals
      rename_i h
      exact slotInv_ite (reachResult_slotInv _ hu (by rw [h]; rfl) (by rw [h]; rfl) (by rw [h]; rfl)) hu

/-- The ends of what the transmitter does. -/
theorem transmitterCommands_slotInv {s t : State} (hs : SlotInv s) :
    (execTransmissionEnd s = .next t → SlotInv t) ∧ (execTestEnd s = .next t → SlotInv t) ∧
      (execStoppingEnd s = .next t → SlotInv t) := by
  refine ⟨event_slotInv (fun {u} hu => ?_) hs, event_slotInv (fun {u} hu => ?_) hs,
    event_slotInv (fun {u} hu => ?_) hs⟩
  · split
    · rename_i h
      exact slotInv_ite hu (arbiter_slotInv (transmissionEnds_slotInv
        (hu.countTransmit { u.ftx.counters with completed := bump u.ftx.counters.completed }) h))
    all_goals exact hu
  · split
    · rename_i d h
      exact slotInv_ite (endTest_slotInv hu (by rw [h]; exact TxState.quiet_testing d)) hu
    all_goals exact hu
  · split
    · rename_i h
      exact endTest_slotInv hu (by rw [h]; exact TxState.quiet_stopping [])
    all_goals exact hu

/-- The deadlines of the stream, the session and the alarm block. -/
theorem trunkDeadlines_slotInv {s t : State} (hs : SlotInv s) :
    (execRetransmitTimerExpiry s = .next t → SlotInv t) ∧ (execIdleDeadline s = .next t → SlotInv t) ∧
      (execRenotifyDeadline s = .next t → SlotInv t) ∧ (execPerSecondBoundary s = .next t → SlotInv t) := by
  refine ⟨event_slotInv (fun {u} hu => ?_) hs, event_slotInv (fun {u} hu => ?_) hs,
    event_slotInv (fun {u} hu => ?_) hs, event_slotInv (fun {u} hu => ?_) hs⟩
  · split
    · exact slotInv_ite (hu.keep (timerExpires_keepsSlots u)) hu
    · exact hu
  · split
    · exact slotInv_ite (idleTimeout_slotInv hu) hu
    all_goals exact hu
  · refine slotInv_ite ?_ hu
    rw [joinAllNotices_frame]
    exact hu.keep (.of_eq rfl rfl rfl rfl)
  · exact slotInv_ite (hu.keep (.of_eq rfl rfl rfl rfl)) hu

/-- Every command but the beginning of a full reset keeps the invariant of the slots, in any state. -/
theorem exec_slotInv {c : Instr} {s t : State} (hc : c ≠ .fullReset) (hs : SlotInv s) (h : exec c s = .next t) :
    SlotInv t := by
  obtain ⟨hpreamble, hsync, herror, hcopy⟩ := receiverCommands_slotInv (t := t) hs
  obtain ⟨hgather, hsettle⟩ := recordCommands_slotInv (t := t) hs
  obtain ⟨hopen, hclose, hlife⟩ := slotCommands_slotInv (t := t) hs
  obtain ⟨hsent, htest, hstop⟩ := transmitterCommands_slotInv (t := t) hs
  obtain ⟨htimer, hidle, hrenotify, hsecond⟩ := trunkDeadlines_slotInv (t := t) hs
  cases c
  case fullReset => exact absurd rfl hc
  case fullResetEnd a b =>
    obtain rfl := Host.Outcome.next.inj h
    exact slotInv_ite (afterReset_slotInv _ _ _) (slotInv_ite (hs.keep (.of_eq rfl rfl rfl rfl)) hs)
  case preambleLost ch => exact hpreamble ch h
  case syncMissing ch => exact hsync ch h
  case receiverError ch e => exact herror ch e h
  case copy c => exact hcopy c h
  case cellDecoded ch input => exact execCellDecoded_slotInv ch input hs h
  case gatherDeadline id q => exact hgather id q h
  case settleDeadline id q => exact hsettle id q h
  case windowOpen i => exact hopen i h
  case windowClose i => exact hclose i h
  case lifetimeDeadline i => exact hlife i h
  case transmissionEnd => exact hsent h
  case testEnd => exact htest h
  case stoppingEnd => exact hstop h
  case retransmitTimerExpiry => exact htimer h
  case idleDeadline => exact hidle h
  case renotifyDeadline => exact hrenotify h
  case perSecondBoundary => exact hsecond h
  case partTimeAdvance =>
    exact event_slotInv (f := fun u => { u with tbs.partTime := u.tbs.partTime + 1 })
      (fun hu => hu.keep (.of_eq rfl rfl rfl rfl)) hs h
  case frameBoundary => exact event_slotInv frameEnds_slotInv hs h
  case lineError => exact event_slotInv (fun hu => hu.keep (takeLineError_keepsSlots _)) hs h
  case discardedContent c => exact event_slotInv (takeContent_slotInv c) hs h
  all_goals exact event_slotInv (frameArrives_slotInv _ _ _) hs h

/-- Settles O60: every command but the beginning of a full reset, and every tick, keeps the invariant; a part that is
held leaves the hold with FREE slots. -/
theorem slotsStayConsistent : Obligations.SlotsStayConsistent := by
  intro s t hs h ht
  unfold step at h
  split at h
  · rename_i c rest _
    cases hr : s.inReset with
    | false =>
      have hrest : SlotInv { s with pending := rest } := (hs hr).keep (.of_eq rfl rfl rfl rfl)
      refine exec_slotInv ?_ hrest h
      rintro rfl
      obtain rfl := Host.Outcome.next.inj h
      cases ht
    | true =>
      rcases exec_held_cases c (s := { s with pending := rest }) hr h with hheld | ⟨a, b, rfl⟩
      · rw [hheld] at ht; cases ht
      · exact afterReset_slotInv a b rest
  · obtain rfl := Host.Outcome.next.inj h
    exact idleTick_slotInv (hs (idleTick_inReset s ▸ ht))

end Sys2Proof.Machine

/-! The events of a slot's window, of its lifetime and of the transmitter (sections 4 and 5). -/

namespace Sys2Proof.Machine

/-! ## Windows -/

theorem exec_windowClose_armed {i : Fin 16} {s : State} {d : Downlink} {o c : PartTime} (h : Running s)
    (hi : slotState s i = .armed d o c) :
    exec (.windowClose i) s = .next (settle (if reached s.now c then missWindow i d s else s)) := by
  show execWindowClose i s = _
  simp only [execWindowClose, event_running h, hi]

theorem exec_windowClose_unarmed {i : Fin 16} {s : State} (h : Running s)
    (hi : ∀ d o c, slotState s i ≠ .armed d o c) : exec (.windowClose i) s = .next (settle s) := by
  show execWindowClose i s = _
  unfold execWindowClose
  rw [event_running h]
  split
  case h_1 ha => exact absurd ha (hi _ _ _)
  all_goals rfl

/-- Settles O26, by whether the slot is ARMED and its close reached. -/
theorem windowCloseMisses : Obligations.WindowCloseMisses := by
  intro i s h
  refine ⟨fun d o c hi hc => ?_, fun hopen => ?_⟩
  · rw [exec_windowClose_armed h hi, if_pos hc, missWindow_eq]
  · by_cases hi : ∃ d o c, slotState s i = .armed d o c
    · obtain ⟨d, o, c, hi⟩ := hi
      rw [exec_windowClose_armed h hi, hopen d o c hi]
      rfl
    · exact exec_windowClose_unarmed h fun d o c ha => hi ⟨d, o, c, ha⟩

theorem exec_windowOpen_armed {i : Fin 16} {s : State} {d : Downlink} {o c : PartTime} (h : Running s)
    (hi : slotState s i = .armed d o c) :
    exec (.windowOpen i) s = .next (settle (if reached s.now o then offerSlot i s else s)) := by
  show execWindowOpen i s = _
  simp only [execWindowOpen, event_running h, hi]

theorem exec_windowOpen_unarmed {i : Fin 16} {s : State} (h : Running s)
    (hi : ∀ d o c, slotState s i ≠ .armed d o c) : exec (.windowOpen i) s = .next (settle s) := by
  show execWindowOpen i s = _
  unfold execWindowOpen
  rw [event_running h]
  split
  case h_1 ha => exact absurd ha (hi _ _ _)
  all_goals rfl

/-! ## The choice of the arbiter -/

/-- R102, R103: a slot may be granted when it is ARMED and its close has not passed. -/
theorem grantable_armed {s : State} {i : Fin 16} {d : Downlink} {o c : PartTime} (hi : slotState s i = .armed d o c) :
    grantable s i = true ↔ reached s.now c = false ∨ c = s.now := by
  rw [@eq_comm _ c]
  simp only [grantable, hi, passed]
  cases reached s.now c <;> simp

theorem grantable_iff {s : State} {i : Fin 16} :
    grantable s i = true ↔ ∃ d o c, slotState s i = .armed d o c ∧ (reached s.now c = false ∨ c = s.now) := by
  constructor
  · intro hg
    cases hi : slotState s i with
    | armed d o c => exact ⟨d, o, c, rfl, (grantable_armed hi).mp hg⟩
    | _ => simp [grantable, hi] at hg
  · rintro ⟨d, o, c, hi, hc⟩
    exact (grantable_armed hi).mpr hc

theorem openAge_armed {s : State} {i : Fin 16} {d : Downlink} {o c : PartTime} (hi : slotState s i = .armed d o c) :
    openAge s i = (s.now - o).toNat := by
  simp only [openAge, hi, age]

/-- The first largest member of a rising list is the one that every other member yields to: its key is smaller, or
the same and the member comes later. -/
theorem firstMax_eq_some {n : Nat} {key : Fin n → Nat} {l : List (Fin n)} {i : Fin n}
    (hl : l.Pairwise (fun j k => j < k)) (hi : i ∈ l)
    (hmax : ∀ j ∈ l, key j < key i ∨ key j = key i ∧ i ≤ j) : firstMax key l = some i := by
  cases hm : firstMax key l with
  | none =>
    rw [(firstMax_none key l).mp hm] at hi
    cases hi
  | some x =>
    obtain ⟨before, others, rfl, hbefore, hothers⟩ := firstMax_some key l x hm
    have hx : key x < key i ∨ key x = key i ∧ i ≤ x := hmax x (by simp)
    rcases List.mem_append.mp hi with hi | hi
    · have := hbefore i hi
      omega
    · rcases List.mem_cons.mp hi with rfl | hi
      · rfl
      · have hle := hothers i hi
        have hlt : x < i := (List.pairwise_cons.mp (List.pairwise_append.mp hl).2.1).1 i hi
        omega

/-- R102: with no candidate to grant, the arbiter chooses none. -/
theorem arbiterChoice_eq_none {s : State} (h : ∀ j ∈ s.ftx.candidates, grantable s j = false) :
    arbiterChoice s = none := by
  refine (firstMax_none _ _).mpr (List.filter_eq_nil_iff.mpr fun j hj => ?_)
  rw [h j hj]
  exact Bool.false_ne_true

/-- R102: the arbiter chooses the candidate whose window opened first, the lowest index among equals. -/
theorem arbiterChoice_eq_some {s : State} {i : Fin 16} (hrising : s.ftx.candidates.Pairwise (fun j k => j < k))
    (hi : i ∈ s.ftx.candidates) (hg : grantable s i = true)
    (hmax : ∀ j ∈ s.ftx.candidates, grantable s j = true →
      openAge s j < openAge s i ∨ openAge s j = openAge s i ∧ i ≤ j) : arbiterChoice s = some i := by
  refine firstMax_eq_some (hrising.filter _) (List.mem_filter.mpr ⟨hi, hg⟩) fun j hj => ?_
  obtain ⟨hj, hgj⟩ := List.mem_filter.mp hj
  exact hmax j hj hgj

/-- Settles O25: the candidates that may be granted are those of the statement, and their keys are the ages of their
windows. -/
theorem arbiterGrantsTheEarliest : Obligations.ArbiterGrantsTheEarliest := by
  refine ⟨fun i s h => ⟨fun d o c hi ho => ?_, fun hearly => ?_⟩, fun s => ⟨arbiter_busy, fun hclosed => ?_, ?_⟩⟩
  · rw [exec_windowOpen_armed h hi, if_pos ho]
    rfl
  · by_cases hi : ∃ d o c, slotState s i = .armed d o c
    · obtain ⟨d, o, c, hi⟩ := hi
      rw [exec_windowOpen_armed h hi, hearly d o c hi]
      rfl
    · exact exec_windowOpen_unarmed h fun d o c ha => hi ⟨d, o, c, ha⟩
  · refine arbiter_none (arbiterChoice_eq_none fun j hj => Bool.eq_false_iff.mpr fun hg => ?_)
    obtain ⟨d, o, c, hs, hc⟩ := grantable_iff.mp hg
    obtain ⟨hreached, hne⟩ := hclosed j hj d o c hs
    rcases hc with hc | hc
    · rw [hc] at hreached; cases hreached
    · exact hne hc
  · intro i d o c hidle hrising hi hs hc hfirst
    have hchoice : arbiterChoice s = some i := by
      refine arbiterChoice_eq_some hrising hi ((grantable_armed hs).mpr hc) fun j hj hg => ?_
      obtain ⟨d', o', c', hs', hc'⟩ := grantable_iff.mp hg
      rw [openAge_armed hs, openAge_armed hs']
      exact hfirst j hj d' o' c' hs' hc'
    rw [arbiter_some hidle hchoice, grant_armed hs]
    rfl

/-! ## The lifetime -/

section
variable {i : Fin 16} {s : State} {d : Downlink}

/-- R83: a downlink that waits for a window. -/
theorem exec_lifetimeDeadline_waiting (h : Running s)
    (hi : slotState s i = .held d ∨ ∃ o c, slotState s i = .armed d o c) :
    exec (.lifetimeDeadline i) s = .next (settle
      (if reached s.now d.lifetimeDeadline then reachResult i d (expiryResult d) s else s)) := by
  show execLifetimeDeadline i s = _
  rcases hi with hi | ⟨o, c, hi⟩ <;> simp only [execLifetimeDeadline, event_running h, hi]

/-- R83: a downlink that waits for its confirm. -/
theorem exec_lifetimeDeadline_awaitConfirm (h : Running s) (hi : slotState s i = .awaitConfirm d) :
    exec (.lifetimeDeadline i) s = .next (settle
      (if reached s.now d.lifetimeDeadline then reachResult i d .expiredSent s else s)) := by
  show execLifetimeDeadline i s = _
  simp only [execLifetimeDeadline, event_running h, hi]

/-- R83: SENDING, REPORTING and FREE places are left as they are. -/
theorem exec_lifetimeDeadline_left (h : Running s)
    (hi : slotState s i = .sending d ∨ (∃ r time, slotState s i = .reporting d r time) ∨ slotState s i = .free) :
    exec (.lifetimeDeadline i) s = .next (settle s) := by
  show execLifetimeDeadline i s = _
  rcases hi with hi | ⟨r, time, hi⟩ | hi <;> simp only [execLifetimeDeadline, event_running h, hi]

/-- R83: before the deadline nothing happens to the slot. -/
theorem exec_lifetimeDeadline_early (h : Running s) (hi : (slotState s i).downlink = some d)
    (hearly : reached s.now d.lifetimeDeadline = false) : exec (.lifetimeDeadline i) s = .next (settle s) := by
  have hno : ∀ t : State, (if reached s.now d.lifetimeDeadline then t else s) = s := fun t => by rw [hearly]; rfl
  cases hs : slotState s i with
  | free => exact exec_lifetimeDeadline_left (d := d) h (.inr (.inr hs))
  | sending e => exact exec_lifetimeDeadline_left h (.inl hs)
  | reporting e r time => exact exec_lifetimeDeadline_left h (.inr (.inl ⟨r, time, hs⟩))
  | awaitConfirm e =>
    obtain rfl := Option.some.inj (by rwa [hs] at hi : some e = some d)
    rw [exec_lifetimeDeadline_awaitConfirm h hs, hno]
  | held e =>
    obtain rfl := Option.some.inj (by rwa [hs] at hi : some e = some d)
    rw [exec_lifetimeDeadline_waiting h (.inl hs), hno]
  | armed e o c =>
    obtain rfl := Option.some.inj (by rwa [hs] at hi : some e = some d)
    rw [exec_lifetimeDeadline_waiting h (.inr ⟨o, c, hs⟩), hno]

end

/-- Settles O27, by the slot's state. -/
theorem lifetimeEndsADownlink : Obligations.LifetimeEndsADownlink := by
  intro i s d h ends
  refine ⟨fun hi hd => ⟨fun hnone => ?_, fun hsome => ?_⟩, fun hi hd => ?_, ?_⟩
  · rw [exec_lifetimeDeadline_waiting h hi, if_pos hd, expiryResult, if_pos hnone, reachResult_eq]
    rfl
  · rw [exec_lifetimeDeadline_waiting h hi, if_pos hd, expiryResult, if_neg (Nat.pos_iff_ne_zero.mp hsome),
      reachResult_eq]
    rfl
  · rw [exec_lifetimeDeadline_awaitConfirm h hi, if_pos hd, reachResult_eq]
    rfl
  · rintro (hi | hi | hi | ⟨hi, hearly⟩)
    · exact exec_lifetimeDeadline_left h (.inl hi)
    · exact exec_lifetimeDeadline_left h (.inr (.inl hi))
    · exact exec_lifetimeDeadline_left (d := d) h (.inr (.inr hi))
    · exact exec_lifetimeDeadline_early h hi hearly

/-! ## The ends of what the transmitter does -/

section
variable {s : State}

theorem exec_transmissionEnd_sending {snap : TxSnapshot} {i : Fin 16} {n : Nat} (h : Running s)
    (hx : s.ftx.state = .sending snap i n) :
    exec .transmissionEnd s = .next (settle (if n < snap.levels.length then s else
      arbiter (takeTransmissionEnd i { goIdle s with ftx.counters.completed := bump s.ftx.counters.completed }))) := by
  show execTransmissionEnd s = _
  simp only [execTransmissionEnd, event_running h, hx]

theorem exec_transmissionEnd_quiet (h : Running s) (hx : s.ftx.state.Quiet) :
    exec .transmissionEnd s = .next (settle s) := by
  show execTransmissionEnd s = _
  unfold execTransmissionEnd
  rw [event_running h]
  split
  case h_1 hs => exact absurd hs (hx _ _ _)
  all_goals rfl

theorem exec_testEnd_testing {d : PartTime} (h : Running s) (hx : s.ftx.state = .testing d) :
    exec .testEnd s = .next (settle (if reached s.now d then endTest s else s)) := by
  show execTestEnd s = _
  simp only [execTestEnd, event_running h, hx]

theorem exec_testEnd_other (h : Running s) (hx : ∀ d, s.ftx.state ≠ .testing d) :
    exec .testEnd s = .next (settle s) := by
  show execTestEnd s = _
  unfold execTestEnd
  rw [event_running h]
  split
  case h_1 hs => exact absurd hs (hx _)
  all_goals rfl

theorem exec_stoppingEnd_ended (h : Running s) (hx : s.ftx.state = .stopping []) :
    exec .stoppingEnd s = .next (settle (arbiter (goIdle s))) := by
  show execStoppingEnd s = _
  simp only [execStoppingEnd, event_running h, hx]

theorem exec_stoppingEnd_other (h : Running s) (hx : s.ftx.state ≠ .stopping []) :
    exec .stoppingEnd s = .next (settle s) := by
  show execStoppingEnd s = _
  unfold execStoppingEnd
  rw [event_running h]
  split
  case h_1 hs => exact absurd hs hx
  all_goals rfl

end

/-- Settles O28, by the transmitter's state. -/
theorem transmitterEnds : Obligations.TransmitterEnds := by
  intro s h quiet done
  refine ⟨fun snap i n hx hn => ?_, fun snap i n d hx hn hi => ?_, exec_transmissionEnd_quiet h, fun d hx hd => ?_,
    fun hearly => ?_, exec_stoppingEnd_ended h, exec_stoppingEnd_other h⟩
  · rw [exec_transmissionEnd_sending h hx, if_pos hn]
  · have hdone : slotState done i = .sending d := hi
    have hend : exec .transmissionEnd s = .next (settle (arbiter (
        if reached s.now d.lifetimeDeadline then reachResult i d .expiredSent done
        else setSlot i (.awaitConfirm d) done))) := by
      rw [exec_transmissionEnd_sending h hx, if_neg (Nat.not_lt.mpr hn)]
      exact congrArg (fun t => Host.Outcome.next (settle (arbiter t))) (takeTransmissionEnd_sending hdone)
    rw [hend]
    refine ⟨fun hd => ?_, fun hd => ?_⟩
    · rw [hd]
      rfl
    · rw [if_pos hd, reachResult_eq]
      rfl
  · rw [exec_testEnd_testing h hx, if_pos hd]
    rfl
  · by_cases hx : ∃ d, s.ftx.state = .testing d
    · obtain ⟨d, hx⟩ := hx
      rw [exec_testEnd_testing h hx, hearly d hx]
      rfl
    · exact exec_testEnd_other h fun d hd => hx ⟨d, hd⟩

end Sys2Proof.Machine

/-! The first-copy notification (section 4.3): the confirmation step and the arming step, case by case. -/

namespace Sys2Proof.Machine

/-! ## The confirmation step -/

/-- R71: the active slot of a station, when it has just one. -/
theorem activeSlot_of_onlyActive {s : State} {id : StationId} {i : Fin 16} (h : OnlyActive s id i) :
    activeSlot s id = some i := by
  refine find_finRange_eq_some ?_ fun j hj => ?_
  · rw [Bool.and_eq_true]
    exact (h i).mpr rfl
  · rw [Bool.eq_false_iff, ne_eq, Bool.and_eq_true, h j]
    exact hj.ne

/-- R75: a stale confirm changes its counter alone. -/
theorem countStaleConfirm_eq (n : FirstCopy) (s : State) :
    countStaleConfirm n s =
      { s with dls.counters.staleConfirms :=
          if n.confirm.isSome then bump s.dls.counters.staleConfirms else s.dls.counters.staleConfirms } := by
  unfold countStaleConfirm
  split <;> rfl

section
variable {n : FirstCopy} {s : State} {i : Fin 16} {d : Downlink}

theorem confirmStep_noneActive (h : NoneActive s n.station) : confirmStep n s = countStaleConfirm n s := by
  simp only [confirmStep, activeSlot_none.mpr h]

/-- R75: the three ways out of AWAIT_CONFIRM. -/
theorem confirmStep_awaitConfirm (h : OnlyActive s n.station i) (hi : slotState s i = .awaitConfirm d) :
    confirmStep n s =
      if n.confirm = some d.sequence then reachResult i d .confirmed s
      else if d.attemptsLeft = 0 then reachResult i d .failed (countStaleConfirm n s)
      else setSlot i (.held d) (countStaleConfirm n s) := by
  simp only [confirmStep, activeSlot_of_onlyActive h, hi]

theorem confirmStep_armed {o c : PartTime} (h : OnlyActive s n.station i) (hi : slotState s i = .armed d o c) :
    confirmStep n s = withSlot (countStaleConfirm n s) i (.held d) := by
  simp only [confirmStep, activeSlot_of_onlyActive h, hi]
  rfl

theorem confirmStep_sending (h : OnlyActive s n.station i) (hi : slotState s i = .sending d) :
    confirmStep n s =
      countStaleConfirm n { s with dls.counters.busyUplinks := bump s.dls.counters.busyUplinks } := by
  simp only [confirmStep, activeSlot_of_onlyActive h, hi]

end

/-- Settles O23, by the state of the station's active slot. -/
theorem firstCopyConfirms : Obligations.FirstCopyConfirms := by
  intro n s stale
  have hstale : countStaleConfirm n s = stale := countStaleConfirm_eq n s
  refine ⟨rfl, fun h => (confirmStep_noneActive h).trans hstale,
    fun i h => ⟨fun d hi => ⟨fun hown => ?_, fun hother hleft => ?_, fun hother hleft => ?_⟩,
      fun d o c hi => ?_, fun d hi => ?_⟩⟩
  · rw [confirmStep_awaitConfirm h hi, if_pos hown, reachResult_eq]
    rfl
  · rw [confirmStep_awaitConfirm h hi, if_neg hother, if_pos hleft, hstale, reachResult_eq]
    rfl
  · rw [confirmStep_awaitConfirm h hi, if_neg hother, if_neg (Nat.pos_iff_ne_zero.mp hleft), hstale]
    rfl
  · rw [confirmStep_armed h hi, hstale]
  · rw [confirmStep_sending h hi, countStaleConfirm_eq]

/-! ## The arming step -/

/-- The smallest member of a list is the one whose key every other member exceeds. -/
theorem firstMin_eq_some {ι : Type} {key : ι → Nat} {l : List ι} {x : ι} (hx : x ∈ l)
    (hmin : ∀ y ∈ l, y ≠ x → key x < key y) : firstMin key l = some x := by
  obtain ⟨y, hy⟩ : ∃ y, firstMin key l = some y := by
    cases l with
    | nil => cases hx
    | cons z zs =>
      simp only [firstMin]
      split
      · exact ⟨_, rfl⟩
      · split <;> exact ⟨_, rfl⟩
  obtain ⟨hmem, hle⟩ := firstMin_some key hy
  have hyx : y = x := by
    by_contra hne
    have hlt := hmin y hmem hne
    have := hle x hx
    omega
  rw [hy, hyx]

/-- R71: the HELD slot at the head of the station queue. -/
theorem oldestHeld_eq_some {s : State} {i : Fin 16} {d : Downlink} (hi : slotState s i = .held d)
    (hfirst : ∀ j f, slotState s j = .held f → f.station = d.station → j ≠ i → d.order < f.order) :
    oldestHeld s d.station = some i := by
  refine firstMin_eq_some (mem_heldSlots.mpr ⟨d, hi, rfl⟩) fun j hj hji => ?_
  obtain ⟨f, hf, hid⟩ := mem_heldSlots.mp hj
  simpa [slotOrder, hi, hf, SlotState.downlink] using hfirst j f hf hid hji

theorem oldestHeld_eq_none {s : State} {id : StationId}
    (h : ∀ j d, slotState s j = .held d → d.station ≠ id) : oldestHeld s id = none := by
  have hnil : heldSlots s id = [] := List.eq_nil_iff_forall_not_mem.mpr fun j hj => by
    obtain ⟨d, hd, hid⟩ := mem_heldSlots.mp hj
    exact h j d hd hid
  rw [oldestHeld, hnil]
  rfl

/-- R76: the oldest HELD slot of a station that listens, may be replied to and has no active slot is armed. -/
theorem armStep_arms {n : FirstCopy} {s : State} {k : Fin 64} {e : Entry} {i : Fin 16} {d : Downlink}
    (hlisten : n.listen = true) (hl : lookup s.stab n.station = some (k, e))
    (hreply : e.settings.replyEnabled = true) (hnone : NoneActive s n.station)
    (hold : oldestHeld s n.station = some i) (hi : slotState s i = .held d) :
    armStep n s = armSlot i d n e.settings s := by
  simp [armStep, hl, hlisten, hreply, activeSlot_none.mpr hnone, hold, hi]

/-- R76: when any condition fails nothing is armed. -/
theorem armStep_unmet {n : FirstCopy} {s : State}
    (h : n.listen = false ∨ lookup s.stab n.station = none ∨
      (∃ k e, lookup s.stab n.station = some (k, e) ∧ e.settings.replyEnabled = false) ∨
      (∀ j d, slotState s j = .held d → d.station ≠ n.station) ∨ ¬ NoneActive s n.station) : armStep n s = s := by
  cases hl : lookup s.stab n.station with
  | none => simp only [armStep, hl]
  | some x =>
    obtain ⟨k, e⟩ := x
    rcases h with h | h | ⟨k', e', he, h⟩ | h | h
    · simp [armStep, hl, h]
    · rw [hl] at h; cases h
    · rw [hl] at he
      obtain ⟨-, rfl⟩ := Prod.mk.inj (Option.some.inj he)
      simp [armStep, hl, h]
    · simp [armStep, hl, oldestHeld_eq_none h]
    · obtain ⟨i, hi⟩ := Option.ne_none_iff_exists'.mp (mt activeSlot_none.mp h)
      simp [armStep, hl, hi]

/-- A place that changes state twice keeps the later one. -/
theorem setSlot_setSlot (i : Fin 16) (a b : SlotState) (s : State) :
    setSlot i a (setSlot i b s) = setSlot i a s := by
  simp [setSlot]

/-- R77, R79: a window missed at once leaves nothing of the arming. -/
theorem missWindow_setSlot (i : Fin 16) (d : Downlink) (st : SlotState) (s : State) :
    missWindow i d (setSlot i st s) = missWindow i d s := by
  unfold missWindow
  rw [setSlot_setSlot]
  rfl

/-- R77: a slot that is armed misses a window already closed, joins the candidates in one already open, and waits
otherwise. -/
theorem armSlot_eq (i : Fin 16) (d : Downlink) (n : FirstCopy) (e : Settings) (s : State) :
    armSlot i d n e s =
      if reached s.now (windowCloseOf n e) then missWindow i d s
      else if reached s.now (windowOpenOf n e) then
        offerSlot i (setSlot i (.armed d (windowOpenOf n e) (windowCloseOf n e)) s)
      else setSlot i (.armed d (windowOpenOf n e) (windowCloseOf n e)) s := by
  unfold armSlot
  dsimp only
  rw [missWindow_setSlot]

/-- Settles O24: the slot armed is the head of the station queue, and its window is before, in or after its time. -/
theorem listeningUplinkArms : Obligations.ListeningUplinkArms := by
  intro n s
  refine ⟨armStep_unmet, fun i k e d hlisten hl hreply hnone hi hid hfirst => ?_⟩
  intro o c armed
  have hold : oldestHeld s n.station = some i := by
    rw [← hid] at hfirst ⊢
    exact oldestHeld_eq_some hi hfirst
  have harm : armStep n s =
      if reached s.now c then missWindow i d s else if reached s.now o then offerSlot i armed else armed :=
    (armStep_arms hlisten hl hreply hnone hold hi).trans (armSlot_eq i d n e.settings s)
  rw [harm]
  refine ⟨fun ho hc => ?_, fun ho hc => ?_, fun hc => ?_⟩
  · rw [hc, ho]
    rfl
  · rw [hc, ho]
    rfl
  · rw [if_pos hc, missWindow_eq]

end Sys2Proof.Machine

/-! Valid ACKs (sections 6 and 7): the items that leave the window and the slots that they free. -/

namespace Sys2Proof.Machine

/-! ## Places that go to FREE -/

theorem freed_nil (places : Vector Place 16) : freed places [] = places := by
  ext k hk
  simp [freed]

theorem freed_cons (i : Fin 16) (l : List (Fin 16)) (places : Vector Place 16) :
    freed (places.set i { places[i] with state := .free }) l = freed places (i :: l) := by
  refine Vector.ext fun k hk => ?_
  simp only [freed, Vector.getElem_ofFn, List.mem_cons, vector_set_fin]
  by_cases hki : (⟨k, hk⟩ : Fin 16) = i
  · subst hki
    simp
  · simp [hki]

/-- R89: released OUTCOME items free their slots. -/
theorem releaseItems_eq (its : List Item) (s : State) :
    its.foldl releaseItem s = { s with dls.places := freed s.dls.places (slotsOf its) } := by
  induction its generalizing s with
  | nil => rw [show slotsOf [] = [] from rfl, freed_nil]; rfl
  | cons it its ih =>
    cases it with
    | telegram t => exact ih s
    | outcome o =>
      rw [List.foldl_cons, ih, show slotsOf (.outcome o :: its) = o.slot :: slotsOf its from rfl, ← freed_cons]
      rfl

/-! ## The window -/

/-- R124: the `a` oldest items leave, are counted and free their slots. -/
theorem removeAcked_eq {a : Nat} {s : State} (ha : a ≤ s.dst.window.length) :
    removeAcked a s =
      { s with
        dls.places := freed s.dls.places (slotsOf ((s.dst.window.take a).map SentItem.item))
        dst.window := s.dst.window.drop a
        dst.counters.acknowledged := bumpBy a s.dst.counters.acknowledged } := by
  rw [removeAcked, releaseItems_eq, List.length_take_of_le ha]

theorem removeAcked_zero (s : State) : removeAcked 0 s = s := rfl

section
variable {n : Byte} {s : State}

/-- R123: in an OPEN session an ACK is valid that names no more items than the window holds. -/
theorem ackValid_of_le (hopen : s.trk.session.isOpen = true) (ha : ackCount s.dst n ≤ s.dst.window.length) :
    ackValid s n = true := by
  simp [ackValid, hopen, ha]

theorem takeAck_none (hv : ackValid s n = true) (hrun : s.dst.state = .running) (ha : ackCount s.dst n = 0) :
    takeAck n s = s := by
  simp only [takeAck, hv, hrun, ha, if_true, removeAcked_zero]

theorem takeAck_running (hv : ackValid s n = true) (hrun : s.dst.state = .running) (ha : 0 < ackCount s.dst n) :
    takeAck n s =
      { removeAcked (ackCount s.dst n) s with
        dst.timeoutCount := 0
        dst.timer := if (removeAcked (ackCount s.dst n) s).dst.window.isEmpty then none
          else some (ackDeadline s) } := by
  simp only [takeAck, hv, hrun, if_true, if_neg (Nat.pos_iff_ne_zero.mp ha)]

theorem takeAck_stalled (hv : ackValid s n = true) (hstall : s.dst.state = .stalled) :
    takeAck n s =
      { removeAcked (ackCount s.dst n) s with
        dst.state := .running
        dst.window := markAll (removeAcked (ackCount s.dst n) s).dst.window
        dst.timeoutCount := 0
        dst.timer := none } := by
  simp only [takeAck, hv, hstall, if_true]

end

/-! ## The ACK frame -/

theorem counted_dst (s : State) : (counted s).dst = s.dst := by
  obtain ⟨_, h⟩ := counted_frame s; rw [h]

/-- R149: the stream judges an ACK frame that arrives on a clean assembler. -/
theorem exec_ack_clean {n : Byte} {s : State} (h : Running s)
    (hclean : s.trk.assembler = .hunt ∨ s.trk.assembler = .collecting [] false) :
    exec (.ack n) s = .next (settle (takeAck n (counted s))) := by
  show execAck n s = _
  rw [execAck, event_running h, frameArrives, openingDelimiter_clean hclean]
  rfl

theorem Session.isOpen_of_ne_closed {x : Session} (h : x ≠ .closed) : x.isOpen = true := by
  cases x with
  | closed => exact absurd rfl h
  | opened d => rfl

/-- Settles O30, by the stream's state and whether the ACK names an item. -/
theorem validAckRemovesAndFrees : Obligations.ValidAckRemovesAndFrees := by
  intro n s h hclean hopen o a rest acked c u ha
  have hcount : ackCount c.dst n = a := by rw [counted_dst]; rfl
  have hle : a ≤ c.dst.window.length := by rw [counted_dst]; exact ha
  have hvalid : ackValid c n = true :=
    ackValid_of_le ((counted_isOpen s).trans (Session.isOpen_of_ne_closed hopen)) (by rw [hcount]; exact hle)
  have hremoved : removeAcked a c = u := by
    rw [removeAcked_eq hle]
    simp only [u, c, rest, acked, counted_dst, counted_dls]
  have hdeadline : ackDeadline c = after s.now s.dst.ackTimeoutMs := by
    rw [ackDeadline, counted_dst, State.now, counted_tbs]
    rfl
  have hstate : c.dst.state = s.dst.state := by rw [counted_dst]
  rw [exec_ack_clean h hclean]
  refine ⟨fun hrun hzero => ?_, fun hrun hpos => ?_, fun hstall => ?_⟩
  · rw [takeAck_none hvalid (hstate.trans hrun) (hcount.trans hzero)]
  · rw [takeAck_running hvalid (hstate.trans hrun) (hcount ▸ hpos), hcount, hremoved, hdeadline]
  · rw [takeAck_stalled hvalid (hstate.trans hstall), hcount, hremoved]
    rfl

end Sys2Proof.Machine

/-! CANCEL-DOWNLINK and GET-DOWNLINK (section 9.6): the slot that a handle names, and the answer in each state. -/

namespace Sys2Proof.Machine

/-! ## Handles -/

theorem resolve_outOfRange {s : State} {slot : Byte} (gen : Byte) (h : 15 < slot.toNat) :
    resolve s slot gen = .outOfRange := by
  rw [resolve, dif_neg (by omega)]

/-- R70: a slot index names the downlink of its place, if the place holds one of that generation. -/
theorem resolve_index (s : State) (i : Fin 16) (gen : Byte) :
    resolve s (byteOf i.val) gen =
      if slotState s i = .free ∨ s.dls.places[i].generation ≠ gen then .notFound else .found i := by
  have hval : (byteOf i.val).toNat = i.val := by
    rw [byteOf_toNat]
    have := i.isLt
    omega
  have hlt : (byteOf i.val).toNat < 16 := hval.trans_lt i.isLt
  have hi : (⟨(byteOf i.val).toNat, hlt⟩ : Fin 16) = i := Fin.ext hval
  rw [resolve, dif_pos hlt]
  simp only [hi]
  cases hs : slotState s i <;> simp

theorem resolve_notFound {s : State} {i : Fin 16} {gen : Byte}
    (h : slotState s i = .free ∨ s.dls.places[i].generation ≠ gen) : resolve s (byteOf i.val) gen = .notFound := by
  rw [resolve_index, if_pos h]

theorem resolve_found {s : State} {i : Fin 16} {gen : Byte} (hi : slotState s i ≠ .free)
    (hgen : s.dls.places[i].generation = gen) : resolve s (byteOf i.val) gen = .found i := by
  rw [resolve_index, if_neg (not_or.mpr ⟨hi, not_not.mpr hgen⟩)]

theorem resolve_counted (s : State) (slot gen : Byte) : resolve (counted s) slot gen = resolve s slot gen := by
  simp only [resolve, slotState_counted, counted_dls]

/-! ## The two requests -/

theorem carryOut_cancelDownlink (args : List Byte) (s : State) :
    carryOut 0x41 args s = reqCancelDownlink args s := rfl

theorem carryOut_getDownlink (args : List Byte) (s : State) : carryOut 0x42 args s = reqGetDownlink args s := rfl

section
variable {tag slot gen : Byte} {s : State} {i : Fin 16} {st : Status}

/-- What a handle that names no downlink is answered. -/
def Handle.Refused (h : Handle) (st : Status) : Prop :=
  h = .outOfRange ∧ st = .badValue ∨ h = .notFound ∧ st = .notFound

theorem exec_cancelDownlink_unresolved (h : TakesAtOnce s tag 0x41) (hopen : s.trk.session ≠ .closed)
    (hr : (resolve s slot gen).Refused st) :
    exec (.cancelDownlink tag slot gen) s = .next (refusedWith tag 0x41 st s) := by
  refine request_refused h hopen (by decide) (args := [slot, gen]) (Nat.le_add_left 2 77) ?_
  rw [carryOut_cancelDownlink]
  rcases hr with ⟨hr, rfl⟩ | ⟨hr, rfl⟩ <;> simp only [reqCancelDownlink, resolve_counted, hr]

theorem exec_getDownlink_unresolved (h : TakesAtOnce s tag 0x42) (hopen : s.trk.session ≠ .closed)
    (hr : (resolve s slot gen).Refused st) :
    exec (.getDownlink tag slot gen) s = .next (refusedWith tag 0x42 st s) := by
  refine request_refused h hopen (by decide) (args := [slot, gen]) (Nat.le_add_left 2 77) ?_
  rw [carryOut_getDownlink]
  rcases hr with ⟨hr, rfl⟩ | ⟨hr, rfl⟩ <;> simp only [reqGetDownlink, resolve_counted, hr]

theorem carryOut_cancelDownlink_found (hr : resolve s slot gen = .found i) :
    carryOut 0x41 [slot, gen] (counted s) = cancelSlot i (counted s) := by
  rw [carryOut_cancelDownlink]
  simp only [reqCancelDownlink, resolve_counted, hr]

/-- R90: reading a downlink leaves the place as it is, and the count of the frame leaves what is read. -/
theorem downlinkResults_counted (s : State) (i : Fin 16) : downlinkResults (counted s) i = downlinkResults s i := by
  unfold downlinkResults queuePosition heldSlots slotOrder
  simp only [slotState_counted]

theorem exec_getDownlink_found (h : TakesAtOnce s tag 0x42) (hopen : s.trk.session ≠ .closed)
    (hr : resolve s slot gen = .found i) :
    exec (.getDownlink tag slot gen) s = .next (carriedOut tag 0x42 (downlinkResults s i) (counted s)) := by
  refine request_carriedOut h hopen (by decide) (args := [slot, gen]) (Nat.le_add_left 2 77) ?_
  rw [carryOut_getDownlink, ← downlinkResults_counted]
  simp only [reqGetDownlink, resolve_counted, hr]

end

/-! ## A cancel in each slot state -/

section
variable {tag slot gen : Byte} {s : State} {i : Fin 16} {d : Downlink}

/-- R85: a downlink that is not in transmission is cancelled. -/
theorem cancelSlot_cancelled {s : State} (hi : slotState s i = .held d ∨ (∃ o c, slotState s i = .armed d o c) ∨
    slotState s i = .awaitConfirm d) : cancelSlot i s = done [] (reachResult i d .cancelled s) := by
  rcases hi with hi | ⟨o, c, hi⟩ | hi <;> simp only [cancelSlot, hi]

/-- R159, R87: the count of the frame and the result of a slot are independent. -/
theorem reachResult_cancelled_counted (i : Fin 16) (d : Downlink) (s : State) :
    reachResult i d .cancelled (counted s) =
      { counted s with
        dls := { (withSlot s i (.reporting d .cancelled s.now)).dls with
          counters.cancelled := bump s.dls.counters.cancelled }
        ftx := (withSlot s i (.reporting d .cancelled s.now)).ftx
        dst.waiting := s.dst.waiting ++ [outcomeNow s i d .cancelled] } := by
  obtain ⟨_, h⟩ := counted_frame s
  rw [h]
  rfl

theorem exec_cancelDownlink_sending (h : TakesAtOnce s tag 0x41) (hopen : s.trk.session ≠ .closed)
    (hr : resolve s slot gen = .found i) (hi : slotState s i = .sending d) :
    exec (.cancelDownlink tag slot gen) s = .next (refusedWith tag 0x41 .inFlight s) := by
  refine request_refused h hopen (by decide) (args := [slot, gen]) (Nat.le_add_left 2 77) ?_
  simp only [carryOut_cancelDownlink_found hr, cancelSlot, slotState_counted, hi]

/-- R85, R168: a downlink with a result is answered DONE with it. -/
theorem exec_cancelDownlink_reporting {r : DownlinkResult} {time : PartTime} (h : TakesAtOnce s tag 0x41)
    (hopen : s.trk.session ≠ .closed) (hr : resolve s slot gen = .found i)
    (hi : slotState s i = .reporting d r time) :
    exec (.cancelDownlink tag slot gen) s =
      .next (answered (replyWith tag 0x41 .done ([r.code] ++ be32 time)) false (counted s)) := by
  have hjudge : judgeRequest 0x41 [slot, gen] (counted s) =
      ({ status := .done, results := [r.code] ++ be32 time }, counted s) := by
    rw [judgeRequest_open hopen (by decide), carryOut_cancelDownlink_found hr]
    simp only [cancelSlot, slotState_counted, hi]
  exact requestArrives_atOnce h (args := [slot, gen]) (Nat.le_add_left 2 77) hjudge

end

/-! ## The position in the station queue -/

/-- R90: a HELD slot follows the slots of its station that were queued before it. -/
theorem queuePosition_eq {s : State} {i : Fin 16} {d : Downlink} {p : Fin 16 → Bool} (hi : slotState s i = .held d)
    (hp : ∀ j, p j = true ↔ ∃ f, slotState s j = .held f ∧ f.station = d.station ∧ f.order < d.order) :
    queuePosition s i d.station = ((List.finRange 16).filter p).length + 1 := by
  unfold queuePosition heldSlots
  rw [List.countP_filter, ← List.countP_eq_length_filter]
  refine congrArg (· + 1) (List.countP_congr fun j _ => ?_)
  rw [hp j]
  cases hj : slotState s j <;>
    simp [slotOrder, hi, hj, SlotState.isHeld, SlotState.isOf, SlotState.downlink, and_comm]

/-- Settles O50, by the place that the handle names and its state. -/
theorem downlinksAreCancelledAndRead : Obligations.DownlinksAreCancelledAndRead := by
  intro tag gen s hopen
  refine ⟨fun slot hslot => ?_, fun i hi => ?_, fun i d hgen => ?_⟩
  · have hr : (resolve s slot gen).Refused .badValue := .inl ⟨resolve_outOfRange gen hslot, rfl⟩
    exact ⟨fun h => exec_cancelDownlink_unresolved h hopen hr, fun h => exec_getDownlink_unresolved h hopen hr⟩
  · have hr : (resolve s (byteOf i.val) gen).Refused .notFound := .inr ⟨resolve_notFound hi, rfl⟩
    exact ⟨fun h => exec_cancelDownlink_unresolved h hopen hr, fun h => exec_getDownlink_unresolved h hopen hr⟩
  · intro cancel common reads earlier
    refine ⟨fun h => ⟨fun hi => ?_, fun hi => ?_, fun r time hi => ?_⟩, fun h => ?_⟩
    · have hused : slotState s i ≠ .free := by
        rcases hi with hi | ⟨o, c, hi⟩ | hi <;> rw [hi] <;> exact nofun
      have hcancel : cancelSlot i (counted s) = done [] (reachResult i d .cancelled (counted s)) :=
        cancelSlot_cancelled (by simpa only [slotState_counted] using hi)
      rw [← reachResult_cancelled_counted]
      exact request_carriedOut h hopen (by decide) (Nat.le_add_left 2 77)
        ((carryOut_cancelDownlink_found (resolve_found hused hgen)).trans hcancel)
    · exact exec_cancelDownlink_sending h hopen (resolve_found (by rw [hi]; exact nofun) hgen) hi
    · exact exec_cancelDownlink_reporting h hopen (resolve_found (by rw [hi]; exact nofun) hgen) hi
    · have hread : slotState s i ≠ .free → ∀ bs, downlinkResults s i = bs → reads bs := by
        rintro hused bs rfl
        exact exec_getDownlink_found h hopen (resolve_found hused hgen)
      refine ⟨fun hi => hread (by rw [hi]; exact nofun) _ ?_, fun o c hi => hread (by rw [hi]; exact nofun) _ ?_,
        fun hi => hread (by rw [hi]; exact nofun) _ ?_, fun hi => hread (by rw [hi]; exact nofun) _ ?_,
        fun r time hi => hread (by rw [hi]; exact nofun) _ ?_⟩
      case refine_1 =>
        have hposition : queuePosition s i d.station = earlier.length + 1 := queuePosition_eq hi fun j => by
          cases hj : slotState s j <;> simp
        simp only [downlinkResults, hi, hposition]
        rfl
      all_goals
        simp only [downlinkResults, hi]
        rfl

end Sys2Proof.Machine

/-! The field transmitter (section 5): its ticks, the levels of a telegram and the carrier requests. -/

namespace Sys2Proof.Machine

/-! ## One transmit tick in each transmitter state -/

section
variable {s : State} {snap : TxSnapshot} {i : Fin 16} {n : Nat}

theorem transmitTick_sending (hx : s.ftx.state = .sending snap i n) (hn : n < snap.levels.length) :
    transmitTick s =
      { s with ftx.state := .sending snap i (n + 1), ftx.keyLine := snap.levels.getD (n + 1) s.ftx.keyLine } := by
  simp only [transmitTick, hx, if_pos hn]

/-- R99: FTX_KEY holds its level once every tick of the telegram has been sent. -/
theorem transmitTick_sent (hx : s.ftx.state = .sending snap i n) (hn : snap.levels.length ≤ n) :
    transmitTick s = s := by
  simp only [transmitTick, hx, if_neg (Nat.not_lt.mpr hn)]

theorem transmitTick_stopping {l : Bool} {rest : List Bool} (hx : s.ftx.state = .stopping (l :: rest)) :
    transmitTick s = { s with ftx.state := .stopping rest, ftx.keyLine := rest.headD s.ftx.keyLine } := by
  simp only [transmitTick, hx]

theorem transmitTick_resting
    (hx : s.ftx.state = .idle ∨ s.ftx.state = .stopping [] ∨ ∃ d, s.ftx.state = .testing d) : transmitTick s = s := by
  rcases hx with hx | hx | ⟨d, hx⟩ <;> simp only [transmitTick, hx]

end

theorem step_noCommand {s : State} (h : s.pending = []) : step s = .next (idleTick s) := by
  simp only [step, h]

/-- Settles O2, by the transmitter's state. -/
theorem emptyQueueIsOneTick : Obligations.EmptyQueueIsOneTick := by
  intro s hqueue
  refine ⟨fun hstopped => ?_, fun hruns => ?_⟩
  · rw [step_noCommand hqueue, idleTick_stopped hstopped]
  · rw [step_noCommand hqueue, idleTick_running hruns]
    refine ⟨fun snap i n hx hn => ?_, fun snap i n hx hn => ?_, fun l rest hx => ?_, fun hx => ?_⟩
    · rw [transmitTick_sending hx hn]
    · rw [transmitTick_sent hx hn]
    · rw [transmitTick_stopping hx]
    · rw [transmitTick_resting hx]

/-! ## The levels of a telegram -/

theorem length_cellLevels (p : TxParams) (b : Bool) :
    (cellLevels p.code p.halfBitTicks b).length = p.cellTicks := by
  unfold cellLevels TxParams.cellTicks
  cases p.code <;> cases b <;> simp <;> omega

/-- R96, R97: every cell of a telegram has the same number of ticks. -/
theorem TxSnapshot.length_levels (t : TxSnapshot) : t.levels.length = t.bits.length * t.params.cellTicks := by
  simp [TxSnapshot.levels, List.length_flatMap, length_cellLevels]

/-- R98, R200: sync word and check take 16 cells each, and 6 bytes come before the payload. -/
theorem TxSnapshot.length_bits (t : TxSnapshot) :
    t.bits.length = t.params.preambleBits + 16 + 8 * (t.payload.length + 8) := by
  have hbytes : t.lengthAndBody.length = t.payload.length + 6 := by simp [TxSnapshot.lengthAndBody, be24]
  have hword (w : Word16) : (wordBits w).length = 16 := rfl
  simp only [TxSnapshot.bits, List.length_append, List.length_replicate, hword, length_flatMap_byteBits, hbytes]
  omega

/-- R99: each tick of a telegram moves the position by one and FTX_KEY to that tick's level, and nothing else. -/
theorem iterate_transmitTick_sending {s : State} {snap : TxSnapshot} {i : Fin 16}
    (hx : s.ftx.state = .sending snap i 0) (hfirst : snap.levels[0]? = some s.ftx.keyLine) :
    ∀ (k : Nat) (hk : k < snap.levels.length),
      transmitTick^[k] s = { s with ftx.state := .sending snap i k, ftx.keyLine := snap.levels[k] } := by
  intro k
  induction k with
  | zero =>
    intro hk
    have hkey : snap.levels[0] = s.ftx.keyLine := Option.some.inj ((List.getElem?_eq_getElem hk).symm.trans hfirst)
    rw [hkey, ← hx]
    rfl
  | succ k ih =>
    intro hk
    rw [Function.iterate_succ_apply', ih (Nat.lt_of_succ_lt hk), transmitTick_sending rfl (Nat.lt_of_succ_lt hk),
      List.getD_eq_getElem _ _ hk]

/-- Settles O29: the telegram's bits are keyed cell by cell, and each tick moves FTX_KEY to the next level. -/
theorem downlinkIsKeyedBitByBit : Obligations.DownlinkIsKeyedBitByBit := by
  intro snap h bytes bits levels
  have hlevels : snap.levels = levels := by
    refine congrArg (List.flatMap · bits) (funext fun b => ?_)
    unfold cellLevels
    cases snap.params.code <;> cases b <;> rfl
  refine ⟨hlevels, snap.length_bits, hlevels ▸ snap.length_levels, fun s i k hx hmark hpreamble hunit hk => ?_⟩
  rw [← hlevels] at hk ⊢
  have hstart : 0 < snap.levels.length := Nat.zero_lt_of_lt hk
  have hfirst : snap.levels[0]? = some s.ftx.keyLine := by
    rw [List.getElem?_eq_getElem hstart, hmark,
      TxSnapshot.levels_first ⟨hunit, hpreamble⟩ (List.getElem?_eq_getElem hstart)]
  rw [iterate_transmitTick_sending hx hfirst k hk]
  exact ⟨rfl, (List.getElem?_eq_getElem hk).symm, rfl⟩

/-! ## Carrier requests -/

@[simp] theorem counted_ftx (s : State) : (counted s).ftx = s.ftx := by
  obtain ⟨_, h⟩ := counted_frame s; rw [h]

section
variable {s : State} {ms : Nat}

theorem carrierTest_idle (hx : s.ftx.state = .idle) :
    carrierTest ms s = done (be32 (after s.now ms))
      (startTest (after s.now ms) { s with ftx.counters.tests := bump s.ftx.counters.tests }) := by
  simp only [carrierTest, hx]

theorem carrierTest_testing {d : PartTime} (hx : s.ftx.state = .testing d) :
    carrierTest ms s = done (be32 (after s.now ms)) (startTest (after s.now ms) s) := by
  simp only [carrierTest, hx]

theorem carrierTest_busy
    (hx : (∃ snap i n, s.ftx.state = .sending snap i n) ∨ ∃ rest, s.ftx.state = .stopping rest) :
    carrierTest ms s = refuse .busy s := by
  rcases hx with ⟨snap, i, n, hx⟩ | ⟨rest, hx⟩ <;> simp only [carrierTest, hx]

theorem reqCarrierStop_testing {d : PartTime} (hx : s.ftx.state = .testing d) :
    reqCarrierStop [] s = done [0x01] (endTest s) := by
  simp only [reqCarrierStop, hx]
  rfl

theorem reqCarrierStop_other (hx : ∀ d, s.ftx.state ≠ .testing d) : reqCarrierStop [] s = done [0x00] s := by
  unfold reqCarrierStop
  dsimp only
  split
  case h_1 d ht => exact absurd ht (hx d)
  all_goals rfl

end

theorem carryOut_carrierTest (ms : Word16) (s : State) :
    carryOut 0x60 (be16 ms.toNat) s =
      if 1 ≤ ms.toNat ∧ ms.toNat ≤ 5000 then carrierTest ms.toNat s else refuse .badValue s := by
  show reqCarrierTest (be16 ms.toNat) s = _
  simp only [reqCarrierTest, be16, num16_be16]

theorem carryOut_carrierStop (s : State) : carryOut 0x61 [] s = reqCarrierStop [] s := rfl

/-- Settles O54, by the duration and the transmitter's state. -/
theorem carrierTestsAndStops : Obligations.CarrierTestsAndStops := by
  intro tag s hopen
  have hnow : (counted s).now = s.now := by simp only [now_eq, counted_tbs]
  refine ⟨fun ms h => ?_, fun h => ?_⟩
  · intro testEnd tests
    have hend : after (counted s).now ms.toNat = testEnd := by rw [hnow]; rfl
    have hargs : (be16 ms.toNat).length ≤ 79 := Nat.le_add_left 2 77
    refine ⟨fun hrange => request_refused h hopen (by decide) hargs ?_, fun hlow hhigh => ?_⟩
    · rw [carryOut_carrierTest, if_neg hrange]
    · have hcarry : carryOut 0x60 (be16 ms.toNat) (counted s) = carrierTest ms.toNat (counted s) := by
        rw [carryOut_carrierTest, if_pos ⟨hlow, hhigh⟩]
      refine ⟨fun hx => request_carriedOut h hopen (by decide) hargs (hcarry.trans ?_),
        fun d hx => request_carriedOut h hopen (by decide) hargs (hcarry.trans ?_),
        fun hx => request_refused h hopen (by decide) hargs (hcarry.trans (carrierTest_busy ?_))⟩
      · rw [carrierTest_idle (by rwa [counted_ftx]), hend, counted_ftx]
        simp only [startTest, tests, counted_ftx]
      · rw [carrierTest_testing (by rwa [counted_ftx]), hend]
        rfl
      · rwa [counted_ftx]
  · refine ⟨fun d hx => request_carriedOut h hopen (by decide) (Nat.zero_le 79) ?_,
      fun hx => request_carriedOut h hopen (by decide) (Nat.zero_le 79) ?_⟩
    · rw [carryOut_carrierStop, reqCarrierStop_testing (by rwa [counted_ftx])]
      rfl
    · rw [carryOut_carrierStop, reqCarrierStop_other (by rwa [counted_ftx])]

end Sys2Proof.Machine

/-! The delivery stream (chapter 6): the item of a stream frame, the place of an offered TELEGRAM item, and the
retransmit timer. -/

namespace Sys2Proof.Machine

/-! ## The item of a stream frame -/

/-- R120: with an item marked, the oldest marked one is sent again. -/
theorem streamSend_resend {s : State} {w : SentItem} (h : s.dst.window.find? SentItem.resendPending = some w) :
    streamSend s = some ((w.sequence, w.item), { s with
      dst.window := clearFirstPending s.dst.window
      dst.counters.resends := bump s.dst.counters.resends
      dst.timer := some (s.dst.timer.getD (ackDeadline s)) }) := by
  simp only [streamSend, h, startTimer_eq]
  rfl

/-- R118, R120: with no item marked, the head of the waiting queue is sent for the first time. -/
theorem streamSend_first {s : State} {it : Item} {rest : List Item}
    (h : s.dst.window.find? SentItem.resendPending = none) (hw : s.dst.waiting = it :: rest) :
    streamSend s = some ((s.dst.nextSequence, it), { s with
      dst.waiting := rest
      dst.window := s.dst.window ++ [{ item := it, sequence := s.dst.nextSequence, resendPending := false }]
      dst.nextSequence := s.dst.nextSequence + 1
      dst.counters.itemsSent := bump s.dst.counters.itemsSent
      dst.timer := some (s.dst.timer.getD (ackDeadline s)) }) := by
  simp only [streamSend, h, hw, startTimer_eq]
  rfl

/-- The oldest marked item stands behind unmarked ones. -/
theorem find_resendPending {before others : List SentItem} {w : SentItem}
    (hbefore : ∀ x ∈ before, x.resendPending = false) (hw : w.resendPending = true) :
    (before ++ w :: others).find? SentItem.resendPending = some w := by
  rw [List.find?_append, List.find?_eq_none.mpr (by simpa using hbefore), Option.none_or,
    List.find?_cons_of_pos hw]

/-- R120: the mark that is cleared is that of the oldest marked item. -/
theorem clearFirstPending_append {before others : List SentItem} {w : SentItem}
    (hbefore : ∀ x ∈ before, x.resendPending = false) (hw : w.resendPending = true) :
    clearFirstPending (before ++ w :: others) = before ++ { w with resendPending := false } :: others := by
  induction before with
  | nil => simp only [List.nil_append, clearFirstPending, hw, if_true]
  | cons x xs ih =>
    obtain ⟨hx, hxs⟩ := List.forall_mem_cons.mp hbefore
    simp only [List.cons_append, clearFirstPending, hx, Bool.false_eq_true, if_false, ih hxs]

/-- Settles O33, by whether an item of the window is marked. -/
theorem streamChoosesItsItem : Obligations.StreamChoosesItsItem := by
  intro s timer
  have htimer : some (s.dst.timer.getD (ackDeadline s)) = timer := by
    cases ht : s.dst.timer <;> simp only [timer, ht] <;> rfl
  refine ⟨fun before w others hwindow hbefore hw => ?_, fun it rest hwaiting hunmarked => ?_⟩
  · rw [streamSend_resend (hwindow ▸ find_resendPending hbefore hw), htimer, hwindow,
      clearFirstPending_append hbefore hw]
  · rw [streamSend_first (List.find?_eq_none.mpr (by simpa using hunmarked)) hwaiting, htimer]

/-! ## The place of an offered TELEGRAM item -/

theorem isUrgent_iff {x : Item} :
    x.isUrgent = true ↔ ∃ u : TelegramItem, x = .telegram u ∧ u.control.urgent = true := by
  cases x <;> simp [Item.isUrgent]

/-- A list cut where its leading members that satisfy `p` end. -/
theorem takeWhile_dropWhile_of_cut {α : Type} {p : α → Bool} {before others : List α} (hb : ∀ x ∈ before, p x = true)
    (ho : ∀ x, others.head? = some x → ¬ p x = true) :
    (before ++ others).takeWhile p = before ∧ (before ++ others).dropWhile p = others := by
  rw [List.takeWhile_append_of_pos hb, List.dropWhile_append_of_pos hb]
  cases others with
  | nil => simp
  | cons x xs => simp [ho x rfl]

/-- R116: an URGENT item goes ahead of the first waiting item that is not URGENT. -/
theorem placeTelegram_urgent {t : TelegramItem} {before others : List Item} (ht : t.control.urgent = true)
    (hb : ∀ x ∈ before, x.isUrgent = true) (ho : ∀ x, others.head? = some x → ¬ x.isUrgent = true) :
    placeTelegram t (before ++ others) = before ++ .telegram t :: others := by
  obtain ⟨htake, hdrop⟩ := takeWhile_dropWhile_of_cut hb ho
  rw [placeTelegram, if_pos ht, htake, hdrop]

theorem placeTelegram_plain {t : TelegramItem} (ht : t.control.urgent = false) (queue : List Item) :
    placeTelegram t queue = queue ++ [.telegram t] := by
  rw [placeTelegram, if_neg (by simp [ht])]

/-- Settles O22: with room in the stream, the place is the tail or the end of the leading URGENT items. -/
theorem telegramOfferTakesItsPlace : Obligations.TelegramOfferTakesItsPlace := by
  intro t s
  have hcount : s.dst.telegramCount = (s.dst.items.filter Item.isTelegram).length := List.countP_eq_length_filter
  rw [← hcount]
  refine ⟨offerTelegram_lost, fun hroom ht => ?_, fun hroom ht before others hw hb ho => ?_⟩
  · rw [offerTelegram_taken hroom, placeTelegram_plain ht]
  · rw [offerTelegram_taken hroom, hw, placeTelegram_urgent ht (fun x hx => isUrgent_iff.mpr (hb x hx))
      (fun x hx => isUrgent_iff.not.mpr (ho x hx))]

/-! ## The retransmit timer -/

/-- R127: below STALL_LIMIT the items of the window are marked for resend. -/
theorem timerExpires_below {s : State} (h : s.dst.timeoutCount + 1 < s.dst.stallLimit) :
    timerExpires s = { s with
      dst.timer := none
      dst.timeoutCount := s.dst.timeoutCount + 1
      dst.window := markAll s.dst.window } := by
  simp only [timerExpires, if_pos h]

/-- R127: at STALL_LIMIT the stream stalls. -/
theorem timerExpires_stalls {s : State} (h : s.dst.stallLimit ≤ s.dst.timeoutCount + 1) :
    timerExpires s = raise .linkStall { s with
      dst.timer := none
      dst.timeoutCount := s.dst.timeoutCount + 1
      dst.state := .stalled
      dst.counters.stalls := bump s.dst.counters.stalls } := by
  simp only [timerExpires, if_neg (Nat.not_lt.mpr h)]

/-- R127: RETRANSMIT_TIMER_EXPIRY of a running timer whose deadline is reached. -/
theorem exec_retransmitTimerExpiry_reached {s : State} {d : PartTime} (h : Running s) (ht : s.dst.timer = some d)
    (hd : reached s.now d = true) : exec .retransmitTimerExpiry s = .next (settle (timerExpires s)) := by
  show execRetransmitTimerExpiry s = _
  simp only [execRetransmitTimerExpiry, event_running h, ht, hd, if_true]

theorem exec_retransmitTimerExpiry_early {s : State} (h : Running s)
    (hd : ∀ d, s.dst.timer = some d → reached s.now d = false) :
    exec .retransmitTimerExpiry s = .next (settle s) := by
  show execRetransmitTimerExpiry s = _
  rw [execRetransmitTimerExpiry, event_running h]
  split
  · rename_i d ht
    rw [hd d ht, if_neg Bool.false_ne_true]
  · rfl

/-- Settles O32, by the deadline and the timeout count. -/
theorem retransmitTimerExpires : Obligations.RetransmitTimerExpires := by
  intro s h
  refine ⟨fun d ht hd => ?_, exec_retransmitTimerExpiry_early h⟩
  rw [exec_retransmitTimerExpiry_reached h ht hd]
  exact ⟨fun hbelow => by rw [timerExpires_below hbelow]; rfl, fun hlimit => by rw [timerExpires_stalls hlimit]⟩

/-! ## Invalid ACKs -/

/-- R123, R126: an ACK is invalid in a CLOSED session, or when it names more items than the window holds. -/
theorem ackValid_eq_false {n : Byte} {s : State}
    (h : s.trk.session = .closed ∨ s.dst.window.length < ackCount s.dst n) : ackValid s n = false := by
  rw [ackValid, Bool.and_eq_false_iff, decide_eq_false_iff_not, Nat.not_le]
  exact h.imp_left fun hc => by rw [hc]; rfl

/-- R126: the stream ignores an invalid ACK. -/
theorem takeAck_invalid {n : Byte} {s : State} (h : ackValid s n = false) :
    takeAck n s = { s with dst.counters.badAcks := bump s.dst.counters.badAcks } := by
  rw [takeAck, if_neg (by simp [h])]

/-- R126, R149: a valid frame that changes nothing else than a stream counter leaves a settled state settled. -/
theorem settled_badAck {s : State} (hs : Settled s) (k : Nat) :
    Settled { counted s with dst.counters.badAcks := k } := by
  obtain ⟨hno, hline⟩ := hs
  have heligible : streamEligible (counted s) = streamEligible s := by
    rw [streamEligible, counted_isOpen, counted_dst, streamEligible]
  obtain ⟨session, hc⟩ := counted_frame s
  refine ⟨by rw [hc]; exact hno, hline.imp (fun hl => by rw [hc]; exact hl) ?_⟩
  rintro ⟨hresponses, hnotice, hstream⟩
  exact ⟨by rw [hc]; exact hresponses, by rw [hc]; exact hnotice, heligible.trans hstream⟩

/-- Settles O31: the stream counts the ACK alone, and a settled part has nothing more to do. -/
theorem invalidAckIsIgnored : Obligations.InvalidAckIsIgnored := by
  intro n s o hbad
  have hinvalid : ackValid s n = false := ackValid_eq_false hbad
  refine ⟨takeAck_invalid hinvalid, fun hrest hclean => ?_⟩
  have hinvalid' : ackValid (counted s) n = false := by
    rw [ackValid, counted_isOpen, counted_dst]
    exact hinvalid
  have hcount : (counted s).dst.counters.badAcks = s.dst.counters.badAcks := by rw [counted_dst]
  have hignored : takeAck n (counted s) =
      { counted s with dst.counters.badAcks := bump s.dst.counters.badAcks } := by
    rw [takeAck_invalid hinvalid', hcount]
  rw [exec_ack_clean hrest.1 hclean, hignored]
  exact congrArg Host.Outcome.next (settle_of_settled (settled_badAck hrest.2 _) rfl rfl rfl)

end Sys2Proof.Machine

/-! The close and the opening of a session (sections 6.5 and 8.4): the stream, the line, the engine and the notice
set. -/

namespace Sys2Proof.Machine

/-! ## Session close -/

/-- R157: what a session close comes to before it aborts a frame on the line. -/
def sessionEnded (s : State) : State :=
  { s with
    dst := { s.dst with
      waiting := s.dst.window.map SentItem.item ++ s.dst.waiting, window := [], timer := none
      state := .running, timeoutCount := 0 }
    trk := { s.trk with session := .closed, streamWait := 0, notices := Vector.replicate 8 false } }

theorem closeSession_opened {s : State} (h : s.trk.session ≠ .closed) :
    closeSession s = abortLine (sessionEnded s) := by
  unfold closeSession
  split
  · exact absurd ‹_› h
  · rfl

/-- R157: a line at rest, an aborted frame or a response is left on the line. -/
theorem abortLine_kept {s : State}
    (h : s.trk.line = none ∨ ∃ f, s.trk.line = some f ∧ (f.aborted = true ∨ ∃ q, f.content = .response q)) :
    abortLine s = s := by
  rcases h with h | ⟨f, h, hf⟩
  · simp only [abortLine, h]
  · have hkept : (f.content.isTraffic && !f.aborted) = false := by
      rcases hf with hf | ⟨q, hf⟩ <;> rw [hf]
      · exact Bool.and_false _
      · rfl
    simp only [abortLine, h, hkept, Bool.false_eq_true, if_false]

/-- R157: a DELIVERY or NOTICE frame is aborted and counted. -/
theorem abortLine_traffic {s : State} {f : FrameContent} (h : s.trk.line = some { content := f, aborted := false })
    (hf : f.isTraffic = true) :
    abortLine s = { s with
      trk.line := some { content := f, aborted := true }
      trk.counters.framesAborted := bump s.trk.counters.framesAborted } := by
  simp only [abortLine, h, hf, Bool.not_false, Bool.and_true, if_true]

/-! ## The boundary that ends a concluding response -/

theorem engineReleased_closing {s : State} (h : s.mre = .closing) : engineReleased s = { s with mre := .ready } := by
  simp only [engineReleased, h]

theorem engineReleased_restarting {s : State} (h : s.mre = .restarting) :
    engineReleased s = { warmRestart s with mre := .ready } := by
  simp only [engineReleased, h]

/-- R158: the end of the response of a CLOSE-SESSION or WARM-RESTART. -/
theorem exec_frameBoundary_concluding {s : State} {q : QueuedResponse} {ab : Bool} (h : Running s)
    (hl : s.trk.line = some { content := .response q, aborted := ab }) (hq : q.concludes = true) :
    exec .frameBoundary s = .next (settle (engineReleased (closeSession { s with trk.line := none }))) := by
  show execFrameBoundary s = _
  simp only [execFrameBoundary, event_running h, frameEnds, hl, hq, if_true]

/-- R158, R166: the engine is READY again once the session is closed, in RESTARTING after the warm restart. -/
theorem exec_frameBoundary_releases {s ended : State} {q : QueuedResponse} {ab : Bool} (h : Running s)
    (hl : s.trk.line = some { content := .response q, aborted := ab }) (hq : q.concludes = true)
    (hended : closeSession { s with trk.line := none } = ended) :
    (ended.mre = .closing → exec .frameBoundary s = .next (settle { ended with mre := .ready })) ∧
      (ended.mre = .restarting →
        exec .frameBoundary s = .next (settle { warmRestart ended with mre := .ready })) := by
  rw [exec_frameBoundary_concluding h hl hq, hended]
  exact ⟨fun hm => by rw [engineReleased_closing hm], fun hm => by rw [engineReleased_restarting hm]⟩

/-- Settles O35, by the session state, the frame on the line and the engine's state. -/
theorem sessionCloses : Obligations.SessionCloses := by
  intro s stream trunk
  refine ⟨closeSession_closed, fun hopen hkept => ?_, fun f hopen hl hf => ?_, ?_, ?_⟩
  · exact (closeSession_opened hopen).trans (abortLine_kept (s := sessionEnded s) hkept)
  · have htraffic : f.isTraffic = true := by
      rcases hf with ⟨q, it, rfl⟩ | ⟨c, k, l, t, rfl⟩ <;> rfl
    exact (closeSession_opened hopen).trans (abortLine_traffic (s := sessionEnded s) hl htraffic)
  · intro q ab h hl hq hopen ended
    exact exec_frameBoundary_releases h hl hq
      ((closeSession_opened (s := { s with trk.line := none }) hopen).trans (abortLine_kept (.inl rfl)))
  · intro q ab h hl hq hclosed ended
    exact exec_frameBoundary_releases h hl hq (closeSession_closed (s := { s with trk.line := none }) hclosed)

/-! ## The notice set -/

theorem inNotices_joinNotice (d c : Cause) (s : State) :
    inNotices (joinNotice d s) c = (inNotices s c || (decide (c = d) && noticeDue s c)) := by
  have hindex : c.index = d.index ↔ c = d := by cases c <;> cases d <;> decide
  rw [joinNotice_eq]
  unfold inNotices
  rw [setNotice_trk_notices, vector_set_fin]
  simp only [hindex]
  by_cases hcd : c = d
  · subst c; simp
  · simp [hcd]

/-- R136: whether a notice is due does not depend on the notice set. -/
theorem noticeDue_joinNotice (d c : Cause) (s : State) : noticeDue (joinNotice d s) c = noticeDue s c := by
  rw [joinNotice_frame]; rfl

/-- R136, R138: every cause that meets the conditions is in the notice set, and those that were in it. -/
theorem inNotices_joinAllNotices (s : State) (c : Cause) :
    inNotices (joinAllNotices s) c = (inNotices s c || noticeDue s c) := by
  have key : ∀ (l : List Cause) (t : State), inNotices (l.foldl (fun t c => joinNotice c t) t) c =
      (inNotices t c || (decide (c ∈ l) && noticeDue t c)) := by
    intro l
    induction l with
    | nil => intro t; simp
    | cons d l ih =>
      intro t
      rw [List.foldl_cons, ih, inNotices_joinNotice, noticeDue_joinNotice, Bool.or_assoc, ← Bool.and_or_distrib_right]
      simp [List.mem_cons, Bool.decide_or]
  rw [joinAllNotices, key, decide_eq_true (mem_allCauses c), Bool.true_and]

/-- The notice set is known by its members. -/
theorem notices_ext {v w : Vector Bool 8} (h : ∀ c : Cause, v[c.index] = w[c.index]) : v = w := by
  have hcause : ∀ i : Fin 8, ∃ c ∈ allCauses, c.index = i := by decide
  refine Vector.ext fun k hk => ?_
  obtain ⟨c, -, hc⟩ := hcause ⟨k, hk⟩
  simpa only [Fin.getElem_fin, hc] using h c

/-! ## Session open -/

theorem streamOpen_resume (s : State) : streamOpen .resume s = { s with
    dst.nextSequence := 0
    dst.state := .running
    dst.timeoutCount := 0 } := rfl

/-- R130: at FRESH the waiting items are dropped, and the slots of their OUTCOME items go to FREE. -/
theorem streamOpen_fresh (s : State) : streamOpen .fresh s = { s with
    dls.places := freed s.dls.places (slotsOf s.dst.waiting)
    dst.waiting := []
    dst.counters.droppedAtFresh := bumpBy (s.dst.waiting.countP Item.isTelegram) s.dst.counters.droppedAtFresh
    dst.nextSequence := 0
    dst.state := .running
    dst.timeoutCount := 0 } := by
  unfold streamOpen
  dsimp only
  rw [releaseItems_eq]

/-- R156: the notice set of a session that opens from a CLOSED one. -/
def openingNotices (s : State) : Vector Bool 8 := (joinAllNotices { s with trk.session := .opened none }).trk.notices

theorem openingNotices_index (s : State) (c : Cause) :
    (openingNotices s)[c.index] =
      (inNotices s c || (pendingCause s c && decide (1 ≤ (causeState s c).level))) :=
  inNotices_joinAllNotices { s with trk.session := .opened none } c

/-- R156: what the opening of a CLOSED session changes. -/
theorem openClosedSession_eq (mode : OpenMode) (s : State) :
    openClosedSession mode s = { streamOpen mode s with
      trk.session := .opened (idleDeadlineNow s)
      trk.streamWait := 0
      trk.notices := openingNotices s
      trk.cache := []
      trk.counters.opens := bump s.trk.counters.opens } := by
  have hnotices : ∀ places dst, (joinAllNotices { s with
      dls.places := places
      dst := dst
      trk.session := .opened none
      trk.streamWait := 0
      trk.counters.opens := bump s.trk.counters.opens }).trk.notices = openingNotices s := by
    intro places dst
    refine notices_ext fun c => ?_
    exact (inNotices_joinAllNotices _ c).trans (openingNotices_index s c).symm
  cases mode with
  | resume =>
    rw [streamOpen_resume, openClosedSession, streamOpen_resume, joinAllNotices_frame]
    simp only [hnotices]
  | fresh =>
    rw [streamOpen_fresh, openClosedSession, streamOpen_fresh, joinAllNotices_frame]
    simp only [hnotices]

/-! ## OPEN-SESSION -/

theorem DeliveryStream.telegramCount_unsent {d : DeliveryStream} (h : d.window = []) :
    d.telegramCount = (d.waiting.filter Item.isTelegram).length := by
  rw [telegramCount, items, h, List.map_nil, List.nil_append, List.countP_eq_length_filter]

theorem DeliveryStream.outcomeCount_unsent {d : DeliveryStream} (h : d.window = []) :
    d.outcomeCount = (d.waiting.filter (fun i => !i.isTelegram)).length := by
  rw [outcomeCount, items, h, List.map_nil, List.nil_append, List.countP_eq_length_filter]

/-- R129: after a close the window is empty, when it was empty in CLOSED. -/
theorem closeSession_window {s : State} (h : s.trk.session = .closed → s.dst.window = []) :
    (closeSession s).dst.window = [] := by
  by_cases hx : s.trk.session = .closed
  · rw [closeSession_closed hx]; exact h hx
  · rw [closeSession_opened hx]
    unfold abortLine
    split
    · rfl
    · split <;> rfl

theorem openResults_resume {s : State} (hw : (closeSession s).dst.window = []) :
    openResults .resume s =
      [0x01, yesNo s.trk.session.isOpen, byteOf ((closeSession s).dst.waiting.filter Item.isTelegram).length,
        byteOf ((closeSession s).dst.waiting.filter (fun i => !i.isTelegram)).length, 0, 0,
        byteOf (joiningCount { closeSession s with trk.session := .opened none })] := by
  have hdst : (openSession .resume s).dst =
      { (closeSession s).dst with nextSequence := 0, state := .running, timeoutCount := 0 } := by
    rw [openSession, openClosedSession_eq, streamOpen_resume]
  have hopened : (openSession .resume s).dst.window = [] := by rw [hdst]; exact hw
  unfold openResults
  dsimp only
  rw [DeliveryStream.telegramCount_unsent hopened, DeliveryStream.outcomeCount_unsent hopened, hdst]
  rfl

theorem openResults_fresh {s : State} (hw : (closeSession s).dst.window = []) :
    openResults .fresh s =
      [0x02, yesNo s.trk.session.isOpen, 0, 0, byteOf ((closeSession s).dst.waiting.filter Item.isTelegram).length,
        byteOf ((closeSession s).dst.waiting.filter (fun i => !i.isTelegram)).length,
        byteOf (joiningCount { closeSession s with trk.session := .opened none })] := by
  have hdst : (openSession .fresh s).dst.window = [] ∧ (openSession .fresh s).dst.waiting = [] := by
    rw [openSession, openClosedSession_eq, streamOpen_fresh]
    exact ⟨hw, rfl⟩
  unfold openResults
  dsimp only
  rw [DeliveryStream.telegramCount_unsent hdst.1, DeliveryStream.outcomeCount_unsent hdst.1, hdst.2,
    DeliveryStream.telegramCount_unsent hw, DeliveryStream.outcomeCount_unsent hw]
  rfl

/-- R151, R156: OPEN-SESSION is judged in either session state. -/
theorem judgeRequest_openSession (args : List Byte) (s : State) :
    judgeRequest 0x10 args s = reqOpenSession args s := by
  unfold judgeRequest
  rw [if_neg (by decide), if_neg (by simp)]
  rfl

theorem exec_openSession {tag m : Byte} {mode : OpenMode} {s : State} (h : TakesAtOnce s tag 0x10)
    (hm : openModeOf m = some mode) :
    exec (.openSession tag m) s =
      .next (carriedOut tag 0x10 (openResults mode (counted s)) (openSession mode (counted s))) := by
  have hjudge : judgeRequest 0x10 [m] (counted s) =
      done (openResults mode (counted s)) (openSession mode (counted s)) := by
    rw [judgeRequest_openSession]
    simp only [reqOpenSession, hm]
  exact requestArrives_atOnce h (args := [m]) (Nat.le_add_left 1 78) hjudge

theorem exec_openSession_refused {tag m : Byte} {s : State} (h : TakesAtOnce s tag 0x10)
    (hm : openModeOf m = none) : exec (.openSession tag m) s = .next (refusedWith tag 0x10 .badValue s) := by
  have hjudge : judgeRequest 0x10 [m] (counted s) = refuse .badValue (counted s) := by
    rw [judgeRequest_openSession]
    simp only [reqOpenSession, hm]
  exact requestArrives_atOnce h (args := [m]) (Nat.le_add_left 1 78) hjudge

/-- R155: the count of a valid frame closes no session. -/
theorem closed_of_counted {s : State} (h : (counted s).trk.session = .closed) : s.trk.session = .closed := by
  by_contra hopen
  have hcounted := counted_isOpen s
  rw [h, Session.isOpen_of_ne_closed hopen] at hcounted
  cases hcounted

theorem closeSession_counted_kept (s : State) :
    (closeSession (counted s)).now = s.now ∧ (closeSession (counted s)).trk.sessionIdleS = s.trk.sessionIdleS ∧
      (closeSession (counted s)).trk.counters.opens = s.trk.counters.opens := by
  obtain ⟨_, _, _, _, _, _, _, _, _, _, h⟩ := closeSession_frame (counted s)
  obtain ⟨_, hc⟩ := counted_frame s
  rw [h, hc]
  exact ⟨rfl, rfl, rfl⟩

/-- Settles O42: the session closes, and opens from a CLOSED session with an empty window. -/
theorem openSessionHolds : Obligations.OpenSession := by
  intro tag s h hclosed k joins joined telegrams outcomes opened
  have hw : k.dst.window = [] := by
    refine closeSession_window fun hx => ?_
    rw [counted_dst]
    exact hclosed (closed_of_counted hx)
  have hbefore : yesNo (counted s).trk.session.isOpen = yesNo s.trk.session.isOpen := by rw [counted_isOpen]
  have hjoined : joiningCount { k with trk.session := .opened none } = joined := List.countP_eq_length_filter
  obtain ⟨hnow, hidle, hopens⟩ := closeSession_counted_kept s
  have hdeadline : idleDeadlineNow k = if s.trk.sessionIdleS = 0 then none
      else some (s.now + BitVec.ofNat 32 (s.trk.sessionIdleS * 1000)) := by
    rw [idleDeadlineNow, hidle, hnow]
    rfl
  have hopened : ∀ t, opened (openingNotices k) t = { t with
      dst.nextSequence := 0
      dst.state := .running
      dst.timeoutCount := 0
      trk.session := .opened (idleDeadlineNow k)
      trk.streamWait := 0
      trk.notices := openingNotices k
      trk.cache := []
      trk.counters.opens := bump k.trk.counters.opens } := by
    intro t
    rw [hdeadline, hopens]
  refine ⟨⟨openingNotices k, openingNotices_index k, ?_, ?_⟩, fun m hresume hfresh => ?_⟩
  · rw [exec_openSession h (m := 0x01) (mode := .resume) rfl, openResults_resume hw, hbefore, hjoined,
      openSession, openClosedSession_eq, streamOpen_resume, hopened]
  · rw [exec_openSession h (m := 0x02) (mode := .fresh) rfl, openResults_fresh hw, hbefore, hjoined,
      openSession, openClosedSession_eq, streamOpen_fresh, hopened]
    have htelegrams : k.dst.waiting.countP Item.isTelegram = telegrams := List.countP_eq_length_filter
    rw [htelegrams]
  · exact exec_openSession_refused h (by rw [openModeOf, if_neg hresume, if_neg hfresh])

end Sys2Proof.Machine

/-! The consistency of the delivery stream (chapter 6): its window, its timer and its TELEGRAM items, part by part,
and the operations that leave them as they are. -/

namespace Sys2Proof.Machine

/-! ## The window -/

/-- R118, R120, R121: a window of at most 8 items, numbered up to the next delivery sequence, with the marked items at
its newest end. -/
structure WindowSound (ws : List SentItem) (next : Byte) : Prop where
  short : ws.length ≤ 8
  numbered : ∀ k (h : k < ws.length), ws[k].sequence = next - BitVec.ofNat 8 (ws.length - k)
  marks : ws.Pairwise (fun a b => a.resendPending = true → b.resendPending = true)

/-- R118: the numbers of the window, one by one. -/
theorem numbered_iff {ws : List SentItem} {next : Byte} :
    ws.map SentItem.sequence = (List.range ws.length).map (fun k => next - BitVec.ofNat 8 (ws.length - k)) ↔
      ∀ k (h : k < ws.length), ws[k].sequence = next - BitVec.ofNat 8 (ws.length - k) := by
  simp [List.ext_getElem_iff]

theorem windowSound_nil (next : Byte) : WindowSound [] next := ⟨Nat.zero_le 8, nofun, List.Pairwise.nil⟩

/-- R124: the oldest items leave. -/
theorem WindowSound.drop {ws : List SentItem} {next : Byte} (h : WindowSound ws next) (a : Nat) :
    WindowSound (ws.drop a) next := by
  refine ⟨by have := h.short; rw [List.length_drop]; omega, fun k hk => ?_, h.marks.drop⟩
  rw [List.length_drop] at hk
  rw [List.getElem_drop, h.numbered (a + k) (by omega), List.length_drop, Nat.sub_sub]

/-- Marks alone change. -/
theorem WindowSound.remark {ws vs : List SentItem} {next : Byte} (h : WindowSound ws next)
    (hseq : vs.map SentItem.sequence = ws.map SentItem.sequence)
    (hmarks : vs.Pairwise (fun a b => a.resendPending = true → b.resendPending = true)) : WindowSound vs next := by
  have hlen : vs.length = ws.length := by simpa using congrArg List.length hseq
  refine ⟨hlen ▸ h.short, numbered_iff.mp ?_, hmarks⟩
  rw [hseq, hlen, numbered_iff.mpr h.numbered]

/-- R125, R127: every item is marked. -/
theorem WindowSound.markAll {ws : List SentItem} {next : Byte} (h : WindowSound ws next) :
    WindowSound (markAll ws) next := by
  refine h.remark (markAll_sequences ws) (List.pairwise_map.mpr (List.pairwise_of_forall fun _ _ _ => rfl))

/-- R120: with the oldest mark cleared, the marked items still stand at the newest end. -/
theorem clearFirstPending_marks {ws : List SentItem}
    (h : ws.Pairwise (fun a b => a.resendPending = true → b.resendPending = true)) :
    (clearFirstPending ws).Pairwise (fun a b => a.resendPending = true → b.resendPending = true) := by
  induction ws with
  | nil => exact List.Pairwise.nil
  | cons w ws ih =>
    obtain ⟨-, hws⟩ := List.pairwise_cons.mp h
    unfold clearFirstPending
    split
    · exact List.pairwise_cons.mpr ⟨fun _ _ hmark => (nomatch hmark), hws⟩
    · exact List.pairwise_cons.mpr ⟨fun _ _ hmark => absurd hmark ‹_›, ih hws⟩

theorem WindowSound.clearFirst {ws : List SentItem} {next : Byte} (h : WindowSound ws next) :
    WindowSound (clearFirstPending ws) next :=
  h.remark (clearFirstPending_items ws).2 (clearFirstPending_marks h.marks)

/-- R118, R120: a first send joins the newest end under the next delivery sequence, with no item marked. -/
theorem WindowSound.send {ws : List SentItem} {next : Byte} (h : WindowSound ws next) (hroom : ws.length < 8)
    (hunmarked : ws.find? SentItem.resendPending = none) (it : Item) :
    WindowSound (ws ++ [{ item := it, sequence := next, resendPending := false }]) (next + 1) := by
  refine ⟨by simpa using hroom, fun k hk => ?_, ?_⟩
  · rw [List.length_append, List.length_singleton] at hk ⊢
    by_cases hold : k < ws.length
    · rw [List.getElem_append_left hold, h.numbered k hold, Nat.sub_add_comm hold.le, BitVec.ofNat_add]
      exact (add_sub_add_right_eq_sub next _ 1).symm
    · obtain rfl : k = ws.length := by omega
      simp
  · refine List.pairwise_append.mpr ⟨h.marks, List.pairwise_singleton _ _, fun a ha _ _ hmark => ?_⟩
    exact absurd hmark (List.find?_eq_none.mp hunmarked a ha)

/-! ## The TELEGRAM items -/

theorem DeliveryStream.telegramCount_eq (d : DeliveryStream) :
    d.telegramCount = (d.window.map SentItem.item).countP Item.isTelegram + d.waiting.countP Item.isTelegram :=
  List.countP_append

/-- R116: an item that is placed among others adds one. -/
theorem countP_placeTelegram (t : TelegramItem) (queue : List Item) :
    (placeTelegram t queue).countP Item.isTelegram = queue.countP Item.isTelegram + 1 := by
  unfold placeTelegram
  split
  · have hsplit : queue.countP Item.isTelegram = (queue.takeWhile Item.isUrgent).countP Item.isTelegram +
        (queue.dropWhile Item.isUrgent).countP Item.isTelegram := by
      rw [← List.countP_append, List.takeWhile_append_dropWhile]
    rw [List.countP_append, List.countP_cons_of_pos rfl, hsplit, Nat.add_assoc]
  · exact List.countP_append

/-! ## The timer -/

/-- R122, R127: the timer runs over a window in RUNNING, and the timeout count stands below its limits. -/
structure DeliveryStream.Timed (d : DeliveryStream) : Prop where
  overWindow : d.timer ≠ none → d.window ≠ []
  stalled : d.state = .stalled → d.timer = none
  running : d.state = .running → d.timeoutCount ≤ 14
  count : d.timeoutCount ≤ 15
  limit : d.stallLimit ≤ 15

/-- R129: the window is empty, the timer stopped, and the stream RUNNING with timeout count 0. -/
def DeliveryStream.AtRest (d : DeliveryStream) : Prop :=
  d.window = [] ∧ d.timer = none ∧ d.state = .running ∧ d.timeoutCount = 0

/-- The invariant of the stream in its parts. -/
theorem streamInv_iff {s : State} : StreamInv s ↔
    WindowSound s.dst.window s.dst.nextSequence ∧ s.dst.Timed ∧ s.dst.telegramCount ≤ 24 ∧
      (s.trk.session = .closed → s.dst.AtRest) := by
  constructor
  · intro h
    exact ⟨⟨h.short, numbered_iff.mp h.numbered, h.marks⟩,
      ⟨h.timerOverWindow, h.stalledTimer, h.runningCount, h.anyCount, h.limit⟩, h.telegrams, h.closedQuiet⟩
  · rintro ⟨hwindow, htimed, htelegrams, hclosed⟩
    exact
      { short := hwindow.short, numbered := numbered_iff.mpr hwindow.numbered, marks := hwindow.marks
        telegrams := htelegrams, timerOverWindow := htimed.overWindow, stalledTimer := htimed.stalled
        runningCount := htimed.running, anyCount := htimed.count, limit := htimed.limit, closedQuiet := hclosed }

/-- R129: a stream at rest meets the invariant in either session state. -/
theorem streamInv_atRest {s : State} (h : s.dst.AtRest) (htelegrams : s.dst.telegramCount ≤ 24)
    (hlimit : s.dst.stallLimit ≤ 15) : StreamInv s := by
  obtain ⟨hwindow, htimer, hstate, hcount⟩ := h
  have htimed : s.dst.Timed := ⟨fun ht => absurd htimer ht, fun _ => htimer, fun _ => by omega, by omega, hlimit⟩
  exact streamInv_iff.mpr ⟨hwindow ▸ windowSound_nil _, htimed, htelegrams,
    fun _ => ⟨hwindow, htimer, hstate, hcount⟩⟩

end Sys2Proof.Machine

/-! The field side (chapters 2 to 5) leaves window, timer and session as they are. -/

namespace Sys2Proof.Machine

/-! ## Operations that leave window, timer and session as they are -/

/-- The stream without its waiting queue, its counters and ACK_TIMEOUT_MS. -/
def DeliveryStream.sending (d : DeliveryStream) : DeliveryStream :=
  { d with waiting := [], ackTimeoutMs := 0, counters := zeroStreamCounters }

/-- Window, timer and state of the stream stay, no more than 24 TELEGRAM items are held after if no more were held
before, and the session is not closed. -/
structure KeepsStream (s t : State) : Prop where
  sending : t.dst.sending = s.dst.sending
  telegrams : s.dst.telegramCount ≤ 24 → t.dst.telegramCount ≤ 24
  session : t.trk.session = .closed → s.trk.session = .closed

theorem KeepsStream.refl (s : State) : KeepsStream s s := ⟨rfl, id, id⟩

theorem KeepsStream.trans {s t u : State} (h : KeepsStream s t) (g : KeepsStream t u) : KeepsStream s u :=
  ⟨g.sending.trans h.sending, g.telegrams ∘ h.telegrams, h.session ∘ g.session⟩

/-- The stream and the session stay as they are. -/
theorem KeepsStream.of_eq {s t : State} (hd : t.dst = s.dst) (hx : t.trk.session = s.trk.session) : KeepsStream s t :=
  ⟨by rw [hd], by rw [hd]; exact id, by rw [hx]; exact id⟩

/-- What keeps the stream of `t` keeps that of `s`, when both hold the same. -/
theorem KeepsStream.from_eq {s t u : State} (g : KeepsStream t u) (hd : t.dst = s.dst)
    (hx : t.trk.session = s.trk.session) : KeepsStream s u :=
  (KeepsStream.of_eq hd hx).trans g

theorem KeepsStream.ite {p : Prop} [Decidable p] {s t u : State} (ht : KeepsStream s t) (hu : KeepsStream s u) :
    KeepsStream s (if p then t else u) := by
  split <;> assumption

theorem StreamInv.keep {s t : State} (hs : StreamInv s) (h : KeepsStream s t) : StreamInv t := by
  obtain ⟨hwindow, htimed, htelegrams, hclosed⟩ := streamInv_iff.mp hs
  obtain ⟨-, hw, hn, ht, hst, hc, -, hl, -⟩ := DeliveryStream.mk.inj h.sending
  refine streamInv_iff.mpr ⟨?_, ⟨?_, ?_, ?_, ?_, ?_⟩, h.telegrams htelegrams, fun hx => ?_⟩
  · rw [hw, hn]; exact hwindow
  · rw [ht, hw]; exact htimed.overWindow
  · rw [hst, ht]; exact htimed.stalled
  · rw [hst, hc]; exact htimed.running
  · rw [hc]; exact htimed.count
  · rw [hl]; exact htimed.limit
  · unfold DeliveryStream.AtRest
    rw [hw, ht, hst, hc]
    exact hclosed (h.session hx)

theorem streamInv_ite {p : Prop} [Decidable p] {s t : State} (hs : StreamInv s) (ht : StreamInv t) :
    StreamInv (if p then s else t) := by
  split <;> assumption

/-! ### Offers -/

theorem raise_keepsStream (c : Cause) (s : State) : KeepsStream s (raise c s) := by
  rw [raise_frame]; exact .of_eq rfl rfl

/-- R115, R116: a TELEGRAM item is taken while fewer than 24 are held. -/
theorem offerTelegram_keepsStream (t : TelegramItem) (s : State) : KeepsStream s (offerTelegram t s) := by
  by_cases h : 24 ≤ s.dst.telegramCount
  · rw [offerTelegram_lost h]
    exact (raise_keepsStream _ _).from_eq rfl rfl
  · rw [offerTelegram_taken (Nat.not_le.mp h)]
    refine ⟨rfl, fun _ => ?_, id⟩
    calc DeliveryStream.telegramCount { s.dst with waiting := placeTelegram t s.dst.waiting }
        = s.dst.telegramCount + 1 := by
          simp only [DeliveryStream.telegramCount_eq, countP_placeTelegram, Nat.add_assoc]
      _ ≤ 24 := Nat.not_le.mp h

/-- R88, R117: a result offers an OUTCOME item, which is no TELEGRAM item. -/
theorem reachResult_keepsStream (i : Fin 16) (d : Downlink) (r : DownlinkResult) (s : State) :
    KeepsStream s (reachResult i d r s) := by
  refine ⟨rfl, fun h => ?_, id⟩
  rw [DeliveryStream.telegramCount_eq] at h ⊢
  rw [reachResult_eq, List.countP_append]
  exact h

/-! ### Records and slots -/

theorem closeRecord_keepsStream (r : Record) (b : Bool) (s : State) : KeepsStream s (closeRecord r b s) :=
  (offerTelegram_keepsStream _ _).from_eq rfl rfl

theorem dropRecord_keepsStream (id : StationId) (q : Byte) (s : State) : KeepsStream s (dropRecord id q s) :=
  .of_eq rfl rfl

theorem makePlace_keepsStream (s : State) : KeepsStream s (makePlace s) := by
  have hcounted : ∀ t : State, KeepsStream t
      (raise .rtlPressure { t with rpf.counters.evictions := bump t.rpf.counters.evictions }) :=
    fun t => (raise_keepsStream _ _).from_eq rfl rfl
  unfold makePlace
  dsimp only
  split
  · exact (dropRecord_keepsStream _ _ _).trans (hcounted _)
  · split
    · exact .refl s
    · exact ((closeRecord_keepsStream _ _ _).trans (dropRecord_keepsStream _ _ _)).trans (hcounted _)

theorem offerItems_keepsStream (l : List Record) (s : State) :
    KeepsStream s (l.foldl (fun t r => offerTelegram (recordItem r none true) t) s) := by
  induction l generalizing s with
  | nil => exact .refl s
  | cons r l ih => exact (offerTelegram_keepsStream _ _).trans (ih _)

theorem closureClaim_keepsStream (id : StationId) (s : State) : KeepsStream s (closureClaim id s) :=
  (offerItems_keepsStream _ _).from_eq rfl rfl

theorem missWindow_keepsStream (i : Fin 16) (d : Downlink) (s : State) : KeepsStream s (missWindow i d s) := by
  rw [missWindow_frame]; exact .of_eq rfl rfl

theorem arbiter_keepsStream (s : State) : KeepsStream s (arbiter s) := by
  rw [arbiter_frame]; exact .of_eq rfl rfl

theorem offerSlot_keepsStream (i : Fin 16) (s : State) : KeepsStream s (offerSlot i s) := by
  rw [offerSlot_frame]; exact .of_eq rfl rfl

theorem endTest_keepsStream (s : State) : KeepsStream s (endTest s) := (arbiter_keepsStream _).from_eq rfl rfl

theorem countStaleConfirm_keepsStream (n : FirstCopy) (s : State) : KeepsStream s (countStaleConfirm n s) := by
  rw [countStaleConfirm_frame]; exact .of_eq rfl rfl

theorem confirmStep_keepsStream (n : FirstCopy) (s : State) : KeepsStream s (confirmStep n s) := by
  have hstale := countStaleConfirm_keepsStream n s
  have hheld : ∀ i d, KeepsStream s (setSlot i (.held d) (countStaleConfirm n s)) := fun i d =>
    hstale.trans (.of_eq rfl rfl)
  unfold confirmStep
  split
  · exact hstale
  · split
    · exact .ite (reachResult_keepsStream _ _ _ _)
        (.ite (hstale.trans (reachResult_keepsStream _ _ _ _)) (hheld _ _))
    · rename_i i _ _ d _ _ _
      exact (hheld i d).trans (.of_eq rfl rfl)
    · exact (countStaleConfirm_keepsStream n _).from_eq rfl rfl
    all_goals exact .refl s

theorem notifyStore_keepsStream (n : FirstCopy) (s : State) : KeepsStream s (notifyStore n s) := by
  have harm : ∀ t, KeepsStream t (armStep n t) := fun t => by rw [armStep_frame]; exact .of_eq rfl rfl
  exact (confirmStep_keepsStream n s).trans (harm _)

theorem discardClaim_keepsStream (id : StationId) (s : State) : KeepsStream s (discardClaim id s) := by
  have hslot : ∀ t i, KeepsStream t (discardSlot id t i) := by
    intro t i
    rcases discardSlot_cases id t i with ⟨h, -⟩ | ⟨d, -, -, h⟩
    · rw [h]; exact .refl t
    · rw [h]; exact reachResult_keepsStream _ _ _ _
  unfold discardClaim
  generalize List.finRange 16 = l
  induction l generalizing s with
  | nil => exact .refl s
  | cons i l ih => exact (hslot s i).trans (ih _)

theorem takeTransmissionEnd_keepsStream (i : Fin 16) (s : State) : KeepsStream s (takeTransmissionEnd i s) := by
  unfold takeTransmissionEnd
  split
  · exact .ite (reachResult_keepsStream _ _ _ _) (.of_eq rfl rfl)
  all_goals exact .refl s

/-! ### Copies -/

theorem accept_keepsStream (c : Copy) (check : Word16) (e : Option Entry) (s : State) :
    KeepsStream s (accept c check e s) := by
  have hroom : ∀ t, KeepsStream t (makeRoom t) := fun t => .ite (makePlace_keepsStream t) (.refl t)
  have hproduce : ∀ r t, KeepsStream t (produceNow r (addRecord r t)) := fun r t =>
    (KeepsStream.ite (.refl _) (offerTelegram_keepsStream _ _)).from_eq rfl rfl
  have hadded := ((hroom { s with rpf.counters.accepted := bump s.rpf.counters.accepted }).from_eq
    (s := s) rfl rfl).trans (hproduce (newRecord c check e s.stab) _)
  rw [accept_eq]
  exact .ite (hadded.trans (notifyStore_keepsStream _ _)) hadded

theorem afterLookup_keepsStream (c : Copy) (e : Option (Fin 64 × Entry)) (s : State) :
    KeepsStream s (afterLookup c e s) := by
  unfold afterLookup
  dsimp only
  split
  · refine .ite ?_ (.of_eq rfl rfl)
    rw [takeDuplicate_eq]; exact .of_eq rfl rfl
  · split
    · unfold takeJudged
      split
      · exact (accept_keepsStream _ _ _ _).from_eq rfl rfl
      all_goals exact .of_eq rfl rfl
    · exact accept_keepsStream _ _ _ _

theorem handleCopy_keepsStream (c : Copy) (s : State) : KeepsStream s (handleCopy c s) := by
  have hlearn : KeepsStream s (learn c.station s).1 := by
    obtain ⟨_, _, _, _, _, h⟩ := learn_frame c.station s
    rw [h]; exact .of_eq rfl rfl
  unfold handleCopy
  split
  · split
    · exact .of_eq rfl rfl
    all_goals exact afterLookup_keepsStream _ _ _
  · split
    · exact .of_eq rfl rfl
    · exact afterLookup_keepsStream _ _ _
    · exact hlearn.trans (afterLookup_keepsStream _ _ _)

/-! ### Receivers -/

theorem setReceiver_keepsStream (ch : Channel) (r : Receiver) (s : State) : KeepsStream s (setReceiver ch r s) :=
  .of_eq (by simp) (by simp)

theorem losePreamble_keepsStream (ch : Channel) (s : State) : KeepsStream s (losePreamble ch s) := by
  rw [losePreamble_eq]; exact setReceiver_keepsStream _ _ s

theorem missSync_keepsStream (ch : Channel) (s : State) : KeepsStream s (missSync ch s) := by
  rw [missSync_eq]; exact setReceiver_keepsStream _ _ s

theorem bodyError_keepsStream (ch : Channel) (e : BodyError) (s : State) : KeepsStream s (bodyError ch e s) := by
  rw [bodyError_eq]
  have hreport : ∀ t, KeepsStream t (reportReceiverError t) := fun t => by
    obtain ⟨_, _, h⟩ := reportReceiverError_frame t
    rw [h]; exact .of_eq rfl rfl
  exact (setReceiver_keepsStream _ _ s).trans (hreport _)

theorem handOver_keepsStream (c : Copy) (s : State) : KeepsStream s (handOver c s) := by
  rw [handOver_eq]
  exact (setReceiver_keepsStream _ _ s).trans (handleCopy_keepsStream c _)

theorem setEnable_keepsStream (ch : Channel) (on : Bool) (s : State) : KeepsStream s (setEnable ch on s) := by
  have hset : ∀ t : State, KeepsStream t (if on then enableReceiver ch t else disableReceiver ch t) := fun t => by
    rw [enableReceiver_eq, disableReceiver_eq]
    exact .ite (setReceiver_keepsStream _ _ t) (setReceiver_keepsStream _ _ t)
  cases ch <;> exact (hset _).from_eq rfl rfl

theorem endTelegram_keepsStream (ch : Channel) (t : Tracking) (bytes : List Byte) (reg : Word16) (s : State) :
    KeepsStream s (endTelegram ch t bytes reg s) := by
  unfold endTelegram
  dsimp only
  refine .ite (bodyError_keepsStream _ _ _) ?_
  split
  · exact bodyError_keepsStream _ _ _
  · exact handOver_keepsStream _ _

theorem decodedCell_keepsStream (ch : Channel) (bit soft : Bool) (time : Nat) (s : State) :
    KeepsStream s (decodedCell ch bit soft time s) := by
  have hset : ∀ st, KeepsStream s (setRxState ch st s) := fun st => setReceiver_keepsStream _ _ s
  cases hst : rxState s ch with
  | disabled => rw [decodedCell_disabled hst]; exact .refl s
  | hunt c => rw [decodedCell_hunt hst]; exact hset _
  | preamble t n => rw [decodedCell_preamble hst]; exact .ite (losePreamble_keepsStream _ _) (hset _)
  | sync t w fs n =>
    rw [decodedCell_sync hst]
    exact .ite (hset _) (.ite (missSync_keepsStream _ _) (hset _))
  | body t bytes cur nbits reg =>
    rw [decodedCell_body hst]
    exact .ite (hset _) (.ite (bodyError_keepsStream _ _ _) (.ite (endTelegram_keepsStream _ _ _ _ _) (hset _)))

theorem applyVerdict_keepsStream (ch : Channel) (v : CellVerdict) (s : State) :
    KeepsStream s (applyVerdict ch v s) := by
  cases v with
  | waiting p =>
    show KeepsStream s (setProgress ch p s)
    unfold setProgress
    split
    case h_1 | h_2 => exact .refl s
    all_goals exact setReceiver_keepsStream _ _ s
  | cell bit soft ref => exact decodedCell_keepsStream _ _ _ _ s
  | violation =>
    show KeepsStream s (violation ch s)
    unfold violation
    split
    case h_1 => exact .refl s
    case h_5 => exact bodyError_keepsStream _ _ s
    all_goals exact losePreamble_keepsStream _ s

theorem lineQuiet_keepsStream (ch : Channel) (time : Nat) (s : State) : KeepsStream s (lineQuiet ch time s) := by
  have honce : ∀ t, KeepsStream t (quietOnce ch time t) := by
    intro t
    unfold quietOnce
    split
    · exact .refl t
    · exact applyVerdict_keepsStream _ _ t
  exact (honce s).trans (honce _)

theorem lineEdge_keepsStream (ch : Channel) (rising : Bool) (time : Nat) (s : State) :
    KeepsStream s (lineEdge ch rising time s) := by
  have hanchor : ∀ t, KeepsStream t (anchorEdge ch rising time t) := by
    intro t
    unfold anchorEdge
    dsimp only
    split
    · exact .ite (.refl t) (decodedCell_keepsStream _ _ _ _ t)
    · exact setReceiver_keepsStream _ _ t
    · exact .ite (setReceiver_keepsStream _ _ t) (.refl t)
  refine (lineQuiet_keepsStream ch (time - 1) s).trans ?_
  unfold lineEdge
  dsimp only
  split
  case h_1 => exact .refl _
  case h_2 => exact hanchor _
  all_goals
    split
    · exact .refl _
    · exact applyVerdict_keepsStream _ _ _

end Sys2Proof.Machine

/-! What sending, acknowledging, timing out, closing and opening leave of the consistency of the stream. -/

namespace Sys2Proof.Machine

/-! ## Sending -/

/-- R119: a stream with a frame eligible is RUNNING in an OPEN session, with an item marked or room in the window. -/
theorem streamEligible_cases {s : State} (h : streamEligible s = true) :
    s.trk.session ≠ .closed ∧ s.dst.state = .running ∧
      ((∃ w, s.dst.window.find? SentItem.resendPending = some w) ∨
        s.dst.window.find? SentItem.resendPending = none ∧ s.dst.waiting ≠ [] ∧ s.dst.window.length < 8) := by
  simp only [streamEligible, Bool.and_eq_true, Bool.or_eq_true, beq_iff_eq, Bool.not_eq_true',
    List.isEmpty_eq_false_iff, decide_eq_true_eq] at h
  obtain ⟨⟨hopen, hrun⟩, hsource⟩ := h
  refine ⟨fun hx => (by rw [hx] at hopen; cases hopen), hrun, ?_⟩
  cases hf : s.dst.window.find? SentItem.resendPending with
  | some w => exact .inl ⟨w, rfl⟩
  | none =>
    refine .inr ⟨rfl, hsource.resolve_left fun hmark => ?_⟩
    obtain ⟨w, hw, hp⟩ := List.any_eq_true.mp hmark
    exact List.find?_eq_none.mp hf w hw hp

/-- R120, R122: a send leaves the timer running over a window that is not empty, in RUNNING. -/
theorem DeliveryStream.Timed.send {d e : DeliveryStream} (h : d.Timed) (hrun : d.state = .running)
    (hwindow : e.window ≠ []) (hstate : e.state = d.state) (hcount : e.timeoutCount = d.timeoutCount)
    (hlimit : e.stallLimit = d.stallLimit) : e.Timed := by
  refine ⟨fun _ => hwindow, fun hst => ?_, fun _ => ?_, hcount ▸ h.count, hlimit ▸ h.limit⟩
  · rw [hstate, hrun] at hst; cases hst
  · rw [hcount]; exact h.running hrun

/-- R118, R120–R122: a stream frame taken. -/
theorem sendStream_streamInv {s : State} (hs : StreamInv s) (he : streamEligible s = true) :
    StreamInv (sendStream s) := by
  obtain ⟨hwindow, htimed, htelegrams, -⟩ := streamInv_iff.mp hs
  obtain ⟨hopen, hrun, ⟨w, hf⟩ | ⟨hf, hwaiting, hroom⟩⟩ := streamEligible_cases he
  · have hne : clearFirstPending s.dst.window ≠ [] := by
      rw [← List.length_pos_iff, clearFirstPending_length]
      exact List.length_pos_of_mem (List.mem_of_find?_eq_some hf)
    unfold sendStream
    rw [streamSend_resend hf]
    refine streamInv_iff.mpr ⟨hwindow.clearFirst, htimed.send hrun hne rfl rfl rfl, ?_, fun hx => absurd hx hopen⟩
    rw [DeliveryStream.telegramCount_eq] at htelegrams ⊢
    rw [← (clearFirstPending_items s.dst.window).1] at htelegrams
    exact htelegrams
  · obtain ⟨it, rest, hw⟩ := List.exists_cons_of_ne_nil hwaiting
    unfold sendStream
    rw [streamSend_first hf hw]
    refine streamInv_iff.mpr ⟨hwindow.send hroom hf it, htimed.send hrun (by simp) rfl rfl rfl, ?_,
      fun hx => absurd hx hopen⟩
    rw [DeliveryStream.telegramCount, DeliveryStream.items, hw] at htelegrams
    rw [DeliveryStream.telegramCount, DeliveryStream.items]
    simpa using htelegrams

theorem senderDecides_streamInv {s : State} (hs : StreamInv s) : StreamInv (senderDecides s) := by
  have htake : StreamInv (takeFrame s) := by
    unfold takeFrame
    split
    · rename_i h
      exact sendStream_streamInv hs ((Bool.and_eq_true _ _).mp h).1
    · split
      · exact hs.keep (.of_eq rfl rfl)
      · split
        · exact hs.keep (.of_eq rfl rfl)
        · split
          · exact sendStream_streamInv hs ‹_›
          · exact hs
  unfold senderDecides
  split
  · exact hs
  · exact htake

/-! ## Acknowledgement and expiry -/

/-- R124: the oldest items leave, and with them their TELEGRAM items. -/
theorem telegramCount_drop {d : DeliveryStream} (a : Nat) (h : d.telegramCount ≤ 24) :
    ((d.window.drop a).map SentItem.item).countP Item.isTelegram + d.waiting.countP Item.isTelegram ≤ 24 := by
  rw [DeliveryStream.telegramCount_eq] at h
  have hle := ((List.drop_sublist a d.window).map SentItem.item).countP_le (p := Item.isTelegram)
  omega

/-- R123–R126: an ACK. -/
theorem takeAck_streamInv (n : Byte) {s : State} (hs : StreamInv s) : StreamInv (takeAck n s) := by
  cases hv : ackValid s n with
  | false => rw [takeAck_invalid hv]; exact hs.keep ⟨rfl, id, id⟩
  | true =>
    obtain ⟨hopen, -⟩ := (Bool.and_eq_true _ _).mp hv
    have hnotClosed : s.trk.session ≠ .closed := fun hx => by rw [hx] at hopen; cases hopen
    obtain ⟨hwindow, htimed, htelegrams, -⟩ := streamInv_iff.mp hs
    have hrest := telegramCount_drop (ackCount s.dst n) htelegrams
    obtain ⟨places, hr⟩ := removeAcked_frame (ackCount s.dst n) s
    cases hstate : s.dst.state with
    | running =>
      rcases Nat.eq_zero_or_pos (ackCount s.dst n) with ha | ha
      · rwa [takeAck_none hv hstate ha]
      · rw [takeAck_running hv hstate ha, hr]
        refine streamInv_iff.mpr ⟨hwindow.drop _, ⟨fun ht hnil => ht ?_, fun hst => ?_, fun _ => Nat.zero_le _,
          Nat.zero_le _, htimed.limit⟩, ?_, fun hx => absurd hx hnotClosed⟩
        · exact if_pos (List.isEmpty_iff.mpr hnil)
        · rw [hstate] at hst; cases hst
        · rw [DeliveryStream.telegramCount_eq]; exact hrest
    | stalled =>
      rw [takeAck_stalled hv hstate, hr]
      refine streamInv_iff.mpr ⟨(hwindow.drop _).markAll, ⟨fun ht => absurd rfl ht, fun _ => rfl,
        fun _ => Nat.zero_le _, Nat.zero_le _, htimed.limit⟩, ?_, fun hx => absurd hx hnotClosed⟩
      rw [DeliveryStream.telegramCount_eq, markAll_items]
      exact hrest

/-- R127: a running timer expires. -/
theorem timerExpires_streamInv {s : State} (hs : StreamInv s) (ht : s.dst.timer ≠ none) :
    StreamInv (timerExpires s) := by
  obtain ⟨hwindow, htimed, htelegrams, hclosed⟩ := streamInv_iff.mp hs
  have hopen : s.trk.session ≠ .closed := fun hx => ht (hclosed hx).2.1
  have hrun : s.dst.state = .running := by
    cases hst : s.dst.state with
    | running => rfl
    | stalled => exact absurd (htimed.stalled hst) ht
  have hcount := htimed.running hrun
  have hlimit := htimed.limit
  by_cases hbelow : s.dst.timeoutCount + 1 < s.dst.stallLimit
  · rw [timerExpires_below hbelow]
    refine streamInv_iff.mpr ⟨hwindow.markAll, ⟨fun h => absurd rfl h, fun _ => rfl, fun _ => ?_, ?_, hlimit⟩, ?_,
      fun hx => absurd hx hopen⟩
    · show s.dst.timeoutCount + 1 ≤ 14
      omega
    · show s.dst.timeoutCount + 1 ≤ 15
      omega
    · rw [DeliveryStream.telegramCount_eq] at htelegrams ⊢
      rw [markAll_items]
      exact htelegrams
  · rw [timerExpires_stalls (Nat.not_lt.mp hbelow)]
    refine StreamInv.keep ?_ (raise_keepsStream _ _)
    exact streamInv_iff.mpr ⟨hwindow, ⟨fun h => absurd rfl h, fun _ => rfl, nofun, Nat.succ_le_succ hcount, hlimit⟩,
      htelegrams, fun hx => absurd hx hopen⟩

/-! ## Sessions and restarts -/

theorem closeSession_streamInv {s : State} (hs : StreamInv s) : StreamInv (closeSession s) := by
  have habort : ∀ t, KeepsStream t (abortLine t) := by
    intro t
    unfold abortLine
    split
    · exact .refl t
    · exact .ite (.of_eq rfl rfl) (.refl t)
  by_cases hx : s.trk.session = .closed
  · rwa [closeSession_closed hx]
  · rw [closeSession_opened hx]
    exact (streamInv_atRest (s := sessionEnded s) ⟨rfl, rfl, rfl, rfl⟩ hs.telegrams hs.limit).keep (habort _)

/-- R130: an OPEN-SESSION carried out opens a session whose window is empty. -/
theorem openSession_streamInv (mode : OpenMode) {s : State} (hs : StreamInv s) : StreamInv (openSession mode s) := by
  have hk : StreamInv (closeSession s) := closeSession_streamInv hs
  obtain ⟨hwindow, htimer, -⟩ := hk.closedQuiet (closeSession_session s)
  rw [openSession, openClosedSession_eq]
  cases mode with
  | resume =>
    rw [streamOpen_resume]
    exact streamInv_atRest ⟨hwindow, htimer, rfl, rfl⟩ hk.telegrams hk.limit
  | fresh =>
    rw [streamOpen_fresh]
    refine streamInv_atRest ⟨hwindow, htimer, rfl, rfl⟩ ?_ hk.limit
    rw [DeliveryStream.telegramCount, DeliveryStream.items, hwindow]
    exact Nat.zero_le 24

theorem warmRestart_streamInv {s : State} (hs : StreamInv s) : StreamInv (warmRestart s) := by
  have halarm : ∀ t, KeepsStream t (restartAlarm t) := by
    intro t
    have hraised : KeepsStream t (raise .restarted (alarmCleared t)) := (raise_keepsStream _ _).from_eq rfl rfl
    exact hraised.trans (.of_eq rfl rfl)
  rw [warmRestart_eq]
  exact (streamInv_atRest (s := restartedBlocks s) ⟨rfl, rfl, rfl, rfl⟩ (Nat.zero_le 24) hs.limit).keep (halarm _)

theorem afterReset_streamInv (a b : Bool) (queue : List Instr) : StreamInv (State.afterReset a b queue) :=
  streamInv_atRest ⟨rfl, rfl, rfl, rfl⟩ (Nat.zero_le 24) (Nat.le_add_left 5 10)

theorem engineReleased_streamInv {s : State} (hs : StreamInv s) : StreamInv (engineReleased s) := by
  unfold engineReleased
  split
  · exact hs
  · exact hs.keep (.of_eq rfl rfl)
  · exact (warmRestart_streamInv hs).keep (.of_eq rfl rfl)

theorem frameEnds_streamInv {s : State} (hs : StreamInv s) : StreamInv (frameEnds s) := by
  have hended : StreamInv { s with trk.line := none } := hs.keep (.of_eq rfl rfl)
  unfold frameEnds
  split
  · exact hs
  · dsimp only
    split
    · exact streamInv_ite (engineReleased_streamInv (closeSession_streamInv hended)) hended
    all_goals exact hended

theorem idleTimeout_streamInv {s : State} (hs : StreamInv s) : StreamInv (idleTimeout s) := by
  have hemptied : StreamInv { closeSession s with
      trk.responses := []
      trk.counters.idleCloses := bump (closeSession s).trk.counters.idleCloses } :=
    (closeSession_streamInv hs).keep (.of_eq rfl rfl)
  exact streamInv_ite (engineReleased_streamInv hemptied) hemptied

end Sys2Proof.Machine

/-! Requests, frames and commands keep the delivery stream consistent. -/

namespace Sys2Proof.Machine

/-! ## Requests -/

theorem restartIdle_keepsStream (s : State) : KeepsStream s (restartIdle s) := by
  cases hx : s.trk.session with
  | closed => rw [restartIdle_closed hx]; exact .refl s
  | opened d => rw [restartIdle_opened hx]; exact ⟨rfl, id, nofun⟩

/-- R175, R207: a parameter is set to a value in its range. -/
theorem setParam_streamInv {p : Param} {v : Nat} {s : State} (hs : StreamInv s) (hv : p.inRange v = true) :
    StreamInv (setParam p v s) := by
  cases p
  case stallLimit =>
    have hrange : 1 ≤ v ∧ v ≤ 15 := of_decide_eq_true hv
    obtain ⟨hwindow, ⟨hover, hstalled, hrunning, hcount, -⟩, htelegrams, hclosed⟩ := streamInv_iff.mp hs
    exact streamInv_iff.mpr ⟨hwindow, ⟨hover, hstalled, hrunning, hcount, hrange.2⟩, htelegrams, hclosed⟩
  case ackTimeoutMs => exact hs.keep ⟨rfl, id, id⟩
  case rxEnableA => exact hs.keep (setEnable_keepsStream _ _ _)
  case rxEnableB => exact hs.keep (setEnable_keepsStream _ _ _)
  case sessionIdleS => exact hs.keep ((restartIdle_keepsStream _).from_eq rfl rfl)
  case level c =>
    show StreamInv (setLevel c v s)
    rw [setLevel_eq]; exact hs.keep (.of_eq rfl rfl)
  all_goals exact hs.keep (.of_eq rfl rfl)

theorem reqOpenSession_streamInv (args : List Byte) {s : State} (hs : StreamInv s) :
    StreamInv (reqOpenSession args s).2 := by
  unfold reqOpenSession
  split
  · split
    · exact hs
    · exact openSession_streamInv _ hs
  · exact hs

theorem reqSetParameter_streamInv (args : List Byte) {s : State} (hs : StreamInv s) :
    StreamInv (reqSetParameter args s).2 := by
  unfold reqSetParameter
  split
  · exact hs
  · split
    · exact hs
    · split
      · exact hs
      · split
        · exact hs
        · exact setParam_streamInv hs (by simpa using ‹¬ (!_) = true›)

theorem reqPutStation_keepsStream (args : List Byte) (s : State) : KeepsStream s (reqPutStation args s).2 := by
  rcases reqPutStation_cases args s with ⟨st, h⟩ | ⟨id, settings, h⟩
  · rw [h]; exact .refl s
  · rw [h]
    unfold putStation
    split
    · exact .of_eq rfl rfl
    · split
      · exact .refl s
      · exact .of_eq rfl rfl

theorem reqDropStation_keepsStream (args : List Byte) (s : State) : KeepsStream s (reqDropStation args s).2 := by
  have hdrop : ∀ i id, KeepsStream s (dropStation i id s) := fun i id =>
    ((closureClaim_keepsStream id (setPlace i none s)).trans (discardClaim_keepsStream id _)).from_eq rfl rfl
  unfold reqDropStation
  split
  · dsimp only
    split
    · exact .refl s
    · split
      · exact .refl s
      · split
        · exact .refl s
        · rw [done_snd]; exact hdrop _ _
  · exact .refl s

theorem reqQueueDownlink_keepsStream (args : List Byte) (s : State) :
    KeepsStream s (reqQueueDownlink args s).2 := by
  have hqueue : ∀ id hostTag attempts lifetimeS payload,
      KeepsStream s (queueDownlink id hostTag attempts lifetimeS payload s).2 := by
    intro id hostTag attempts lifetimeS payload
    unfold queueDownlink
    split
    · exact .refl s
    · split
      · exact .refl s
      · split
        · exact .refl s
        · split
          · exact .refl s
          · exact .of_eq rfl rfl
  unfold reqQueueDownlink
  split
  · dsimp only
    split
    · exact .refl s
    · split
      · exact hqueue _ _ _ _ _
      · exact .refl s
  · exact .refl s

theorem reqCancelDownlink_keepsStream (args : List Byte) (s : State) :
    KeepsStream s (reqCancelDownlink args s).2 := by
  have hcancel : ∀ i, KeepsStream s (cancelSlot i s).2 := by
    intro i
    unfold cancelSlot
    split
    case h_1 | h_5 | h_6 => exact .refl s
    all_goals exact reachResult_keepsStream _ _ _ _
  unfold reqCancelDownlink
  split
  · split
    · exact .refl s
    · exact .refl s
    · exact hcancel _
  · exact .refl s

theorem reqCarrierTest_keepsStream (args : List Byte) (s : State) : KeepsStream s (reqCarrierTest args s).2 := by
  have htest : ∀ ms, KeepsStream s (carrierTest ms s).2 := by
    intro ms
    unfold carrierTest
    dsimp only
    split
    case h_3 | h_4 => exact .refl s
    all_goals exact .of_eq rfl rfl
  unfold reqCarrierTest
  split
  · split
    · exact htest _
    · exact .refl s
  · exact .refl s

theorem reqCarrierStop_keepsStream (args : List Byte) (s : State) : KeepsStream s (reqCarrierStop args s).2 := by
  unfold reqCarrierStop
  split
  · split
    · exact endTest_keepsStream s
    all_goals exact .refl s
  · exact .refl s

theorem reqClearCounters_keepsStream (args : List Byte) (s : State) :
    KeepsStream s (reqClearCounters args s).2 := by
  unfold reqClearCounters
  split
  · split
    · exact .refl s
    · rename_i g _
      cases g
      case stream => exact ⟨rfl, id, id⟩
      all_goals exact .of_eq rfl rfl
  · exact .refl s

theorem streamInv_reply_ite {p : Prop} [Decidable p] {x y : Reply × State} (hx : StreamInv x.2)
    (hy : StreamInv y.2) : StreamInv (if p then x else y).2 := by
  split <;> assumption

/-- R167: carrying out a request keeps the invariant of the stream. -/
theorem carryOut_streamInv (code : Byte) (args : List Byte) {s : State} (hs : StreamInv s) :
    StreamInv (carryOut code args s).2 := by
  have hclose : KeepsStream s (reqCloseSession args s).2 := by
    unfold reqCloseSession; split <;> exact .of_eq rfl rfl
  have hrestart : KeepsStream s (reqWarmRestart args s).2 := by
    unfold reqWarmRestart; split <;> exact .of_eq rfl rfl
  have hclear : KeepsStream s (reqClearCause args s).2 := by
    unfold reqClearCause
    split
    · split <;> exact .of_eq rfl rfl
    · exact .refl s
  have hstatus : StreamInv (reqGetStatus args s).2 := by rw [reqGetStatus_snd]; exact hs
  have hget : StreamInv (reqGetParameter args s).2 := by rw [reqGetParameter_snd]; exact hs
  have hstation : StreamInv (reqGetStation args s).2 := by rw [reqGetStation_snd]; exact hs
  have hlist : StreamInv (reqListStations args s).2 := by rw [reqListStations_snd]; exact hs
  have hdownlink : StreamInv (reqGetDownlink args s).2 := by rw [reqGetDownlink_snd]; exact hs
  have hcauses : StreamInv (reqGetCauses args s).2 := by rw [reqGetCauses_snd]; exact hs
  have hcounters : StreamInv (reqGetCounters args s).2 := by rw [reqGetCounters_snd]; exact hs
  unfold carryOut
  exact streamInv_reply_ite (reqOpenSession_streamInv _ hs) (streamInv_reply_ite (hs.keep hclose)
    (streamInv_reply_ite hstatus (streamInv_reply_ite (hs.keep hrestart)
    (streamInv_reply_ite (reqSetParameter_streamInv _ hs) (streamInv_reply_ite hget
    (streamInv_reply_ite (hs.keep (reqPutStation_keepsStream _ _))
    (streamInv_reply_ite (hs.keep (reqDropStation_keepsStream _ _)) (streamInv_reply_ite hstation
    (streamInv_reply_ite hlist (streamInv_reply_ite (hs.keep (reqQueueDownlink_keepsStream _ _))
    (streamInv_reply_ite (hs.keep (reqCancelDownlink_keepsStream _ _)) (streamInv_reply_ite hdownlink
    (streamInv_reply_ite hcauses (streamInv_reply_ite (hs.keep hclear) (streamInv_reply_ite hcounters
    (streamInv_reply_ite (hs.keep (reqClearCounters_keepsStream _ _))
    (streamInv_reply_ite (hs.keep (reqCarrierTest_keepsStream _ _))
      (hs.keep (reqCarrierStop_keepsStream _ _)))))))))))))))))))

/-! ## The closing of an event -/

theorem takeIn_streamInv (q : HeldRequest) {s : State} (hs : StreamInv s) : StreamInv (takeIn q s) := by
  have hrecord : ∀ (r : Response) (t : State), KeepsStream t (recordResponse r t) := fun r t =>
    .ite (.refl t) (.of_eq rfl rfl)
  have hrecorded : ∀ (r : Response) (b : Bool) (t : State), KeepsStream t (pushResponse r b (recordResponse r t)) :=
    fun r b t => (hrecord r t).trans (KeepsStream.of_eq (s := recordResponse r t) rfl rfl)
  unfold takeIn
  split
  · exact hs.keep (.of_eq rfl rfl)
  · rename_i code args _
    split
    · exact hs.keep (.of_eq rfl rfl)
    · have hjudged : StreamInv (judgeRequest code args s).2 :=
        streamInv_reply_ite hs (streamInv_reply_ite hs (carryOut_streamInv code args hs))
      exact hjudged.keep (hrecorded _ _ _)

theorem intakes_streamInv (n : Nat) {s : State} (hs : StreamInv s) : StreamInv (intakes n s) := by
  induction n generalizing s with
  | zero => exact hs
  | succ n ih =>
    unfold intakes
    split
    · exact hs
    · exact streamInv_ite (ih (takeIn_streamInv _ (hs.keep (.of_eq rfl rfl)))) hs

theorem settle_streamInv {s : State} (hs : StreamInv s) : StreamInv (settle s) :=
  intakes_streamInv _ (senderDecides_streamInv (intakes_streamInv _ hs))

/-- An event keeps the invariant when its effect does. -/
theorem event_streamInv {f : State → State} (hf : ∀ {s}, StreamInv s → StreamInv (f s)) {s t : State}
    (hs : StreamInv s) (h : event f s = .next t) : StreamInv t := by
  obtain rfl := Host.Outcome.next.inj h
  exact streamInv_ite (settle_streamInv (hf hs)) hs

theorem event_keepsStream {f : State → State} (hf : ∀ s, KeepsStream s (f s)) {s t : State} (hs : StreamInv s)
    (h : event f s = .next t) : StreamInv t :=
  event_streamInv (fun hu => hu.keep (hf _)) hs h

/-! ## The trunk receiver -/

theorem discardContent_keepsStream (f : ContentFault) (s : State) : KeepsStream s (discardContent f s) :=
  (raise_keepsStream _ _).from_eq rfl rfl

theorem takeLineError_keepsStream (s : State) : KeepsStream s (takeLineError s) :=
  (raise_keepsStream _ _).from_eq rfl rfl

theorem counted_keepsStream (s : State) : KeepsStream s (counted s) :=
  ⟨by rw [counted_dst], by rw [counted_dst]; exact id, closed_of_counted⟩

theorem receiveFrame_streamInv (kind tag : Byte) (body : List Byte) {s : State} (hs : StreamInv s) :
    StreamInv (receiveFrame kind tag body s) := by
  have hcounted : StreamInv (counted s) := hs.keep (counted_keepsStream s)
  have hheld : StreamInv (holdRequest tag body (counted s)) :=
    hcounted.keep (.ite (.of_eq rfl rfl) ((raise_keepsStream _ _).from_eq rfl rfl))
  have hoversize : StreamInv (newContent (discardContent .oversize s)) :=
    hs.keep ((discardContent_keepsStream _ _).trans (.of_eq rfl rfl))
  have hkind : StreamInv (discardKind (newContent s)) := hs.keep (.of_eq rfl rfl)
  exact streamInv_ite hoversize (streamInv_ite (streamInv_ite (takeAck_streamInv _ hcounted) hkind)
    (streamInv_ite hheld hkind))

theorem byteEffect_streamInv (b : Byte) {s : State} (hs : StreamInv s) : StreamInv (byteEffect b s) := by
  have hsame : ∀ x, StreamInv { s with trk.assembler := x } := fun x => hs.keep (.of_eq rfl rfl)
  have hdiscarded : ∀ f, StreamInv (discardContent f s) := fun f => hs.keep (discardContent_keepsStream _ _)
  have hadded : ∀ content c, StreamInv (addContent content c s) := fun content c =>
    streamInv_ite (hdiscarded _) (hsame _)
  have hended : ∀ content, StreamInv (endContent content s) := by
    intro content
    unfold endContent
    split
    · exact hsame _
    · exact streamInv_ite (hdiscarded _) (streamInv_ite (receiveFrame_streamInv _ _ _ hs) (hdiscarded _))
    · exact hdiscarded _
  unfold byteEffect
  split
  · exact streamInv_ite (hsame _) hs
  · exact streamInv_ite (hended _) (streamInv_ite (hsame _) (hadded _ _))
  · exact streamInv_ite (hadded _ _) (streamInv_ite (hadded _ _) (streamInv_ite (hdiscarded _) (hdiscarded _)))

theorem takeSamples_streamInv (due : Nat → Bool) (n : Nat) {s : State} (hs : StreamInv s) :
    StreamInv (takeSamples due n s) := by
  have hsampled : ∀ x, StreamInv (setSampler x s) := fun x => hs.keep (.of_eq rfl rfl)
  rcases takeSamples_frame due n s with ⟨x, h⟩ | ⟨b, h⟩ | h
  · rw [h]; exact hsampled x
  · rw [h]; exact byteEffect_streamInv b (hsampled _)
  · rw [h]; exact (hsampled _).keep (takeLineError_keepsStream _)

theorem receiveByte_streamInv (b : Byte) {s : State} (hs : StreamInv s) : StreamInv (receiveByte s b) :=
  settle_streamInv (byteEffect_streamInv b hs)

theorem frameArrives_streamInv (kind tag : Byte) (body : List Byte) {s : State} (hs : StreamInv s) :
    StreamInv (frameArrives kind tag body s) := by
  have hopening : StreamInv (openingDelimiter s) := by
    unfold openingDelimiter
    split
    case h_1 | h_2 => exact hs.keep (.of_eq rfl rfl)
    all_goals exact receiveByte_streamInv _ hs
  exact receiveFrame_streamInv _ _ _ hopening

theorem takeContent_streamInv (c : TrunkContent) {s : State} (hs : StreamInv s) : StreamInv (takeContent c s) := by
  cases c with
  | fault f => exact hs.keep (discardContent_keepsStream _ _)
  | bytes bs =>
    show StreamInv (bs.foldl receiveByte s)
    induction bs generalizing s with
    | nil => exact hs
    | cons b bs ih => exact ih (receiveByte_streamInv b hs)
  | edge rising time =>
    obtain ⟨x, h⟩ := trunkEdge_frame rising time s
    show StreamInv (trunkEdge rising time s)
    rw [h]; exact (takeSamples_streamInv _ _ hs).keep (.of_eq rfl rfl)
  | quiet time => exact takeSamples_streamInv _ _ hs

/-! ## Every command -/

theorem execCellDecoded_streamInv (ch : Channel) (input : CellInput) {s t : State} (hs : StreamInv s)
    (h : execCellDecoded ch input s = .next t) : StreamInv t := by
  cases input with
  | decided bit soft time => exact event_keepsStream (decodedCell_keepsStream _ _ _ _) hs h
  | edge rising time => exact event_keepsStream (lineEdge_keepsStream _ _ _) hs h
  | quiet time => exact event_keepsStream (lineQuiet_keepsStream _ _) hs h
  | refclk running =>
    obtain rfl := Host.Outcome.next.inj h
    have hruns : StreamInv { s with tbs.refclkRunning := true } := hs.keep (.of_eq rfl rfl)
    refine streamInv_ite ?_ (hs.keep (.of_eq rfl rfl))
    unfold startRefclk
    refine streamInv_ite ?_ (settle_streamInv hruns)
    split
    · exact afterReset_streamInv _ _ _
    · exact hruns

/-- The commands of the receivers that come to a loss, an error or a copy. -/
theorem receiverCommands_streamInv {s t : State} (hs : StreamInv s) :
    (∀ ch, execPreambleLost ch s = .next t → StreamInv t) ∧ (∀ ch, execSyncMissing ch s = .next t → StreamInv t) ∧
      (∀ ch e, execReceiverError ch e s = .next t → StreamInv t) ∧ ∀ c, execCopy c s = .next t → StreamInv t := by
  refine ⟨fun ch h => ?_, fun ch h => ?_, fun ch e => event_keepsStream (fun u => ?_) hs,
    fun c => event_keepsStream (fun u => ?_) hs⟩
  · exact event_keepsStream (fun u => .ite (losePreamble_keepsStream _ u) (.refl u)) hs
      ((exec_preambleLost ch s).symm.trans h)
  · exact event_keepsStream (fun u => .ite (missSync_keepsStream _ u) (.refl u)) hs
      ((exec_syncMissing ch s).symm.trans h)
  · exact .ite (bodyError_keepsStream _ _ u) (.refl u)
  · exact .ite (.refl u) (.ite (handOver_keepsStream _ u) (bodyError_keepsStream _ _ u))

/-- The deadlines of records and slots. -/
theorem deadlineCommands_streamInv {s t : State} (hs : StreamInv s) :
    (∀ id q, execGatherDeadline id q s = .next t → StreamInv t) ∧
      (∀ id q, execSettleDeadline id q s = .next t → StreamInv t) ∧
      (∀ i, execWindowOpen i s = .next t → StreamInv t) ∧ (∀ i, execWindowClose i s = .next t → StreamInv t) ∧
      ∀ i, execLifetimeDeadline i s = .next t → StreamInv t := by
  refine ⟨fun id q => event_keepsStream (fun u => ?_) hs, fun id q => event_keepsStream (fun u => ?_) hs,
    fun i => event_keepsStream (fun u => ?_) hs, fun i => event_keepsStream (fun u => ?_) hs,
    fun i => event_keepsStream (fun u => ?_) hs⟩
  · split
    · exact .refl u
    · split
      · exact .refl u
      · exact .ite (closeRecord_keepsStream _ _ u) (.refl u)
  · split
    · exact .refl u
    · refine .ite ?_ (.refl u)
      exact (KeepsStream.ite (closeRecord_keepsStream _ _ u) (.refl u)).trans (dropRecord_keepsStream _ _ _)
  · split
    · exact .ite (offerSlot_keepsStream _ u) (.refl u)
    all_goals exact .refl u
  · split
    · exact .ite (missWindow_keepsStream _ _ u) (.refl u)
    all_goals exact .refl u
  · split
    case h_4 | h_5 | h_6 => exact .refl u
    all_goals exact .ite (reachResult_keepsStream _ _ _ u) (.refl u)

/-- The ends of what the transmitter does. -/
theorem transmitterCommands_streamInv {s t : State} (hs : StreamInv s) :
    (execTransmissionEnd s = .next t → StreamInv t) ∧ (execTestEnd s = .next t → StreamInv t) ∧
      (execStoppingEnd s = .next t → StreamInv t) := by
  refine ⟨event_keepsStream (fun u => ?_) hs, event_keepsStream (fun u => ?_) hs,
    event_keepsStream (fun u => ?_) hs⟩
  · split
    · refine .ite (.refl u) (KeepsStream.trans ?_ (arbiter_keepsStream _))
      exact (takeTransmissionEnd_keepsStream _ _).from_eq rfl rfl
    all_goals exact .refl u
  · split
    · exact .ite (endTest_keepsStream u) (.refl u)
    all_goals exact .refl u
  · split
    · exact endTest_keepsStream u
    all_goals exact .refl u

/-- The deadlines of the stream, the session and the alarm block. -/
theorem trunkDeadlines_streamInv {s t : State} (hs : StreamInv s) :
    (execRetransmitTimerExpiry s = .next t → StreamInv t) ∧ (execIdleDeadline s = .next t → StreamInv t) ∧
      (execRenotifyDeadline s = .next t → StreamInv t) ∧ (execPerSecondBoundary s = .next t → StreamInv t) := by
  refine ⟨event_streamInv (fun {u} hu => ?_) hs, event_streamInv (fun {u} hu => ?_) hs,
    event_keepsStream (fun u => ?_) hs, event_keepsStream (fun u => ?_) hs⟩
  · split
    · rename_i ht
      exact streamInv_ite (timerExpires_streamInv hu (by rw [ht]; exact nofun)) hu
    · exact hu
  · split
    · exact streamInv_ite (idleTimeout_streamInv hu) hu
    all_goals exact hu
  · refine .ite ?_ (.refl u)
    rw [joinAllNotices_frame]
    exact .of_eq rfl rfl
  · exact .ite (.of_eq rfl rfl) (.refl u)

/-- Every command but the beginning of a full reset keeps the invariant of the stream, in any state. -/
theorem exec_streamInv {c : Instr} {s t : State} (hc : c ≠ .fullReset) (hs : StreamInv s) (h : exec c s = .next t) :
    StreamInv t := by
  obtain ⟨hpreamble, hsync, herror, hcopy⟩ := receiverCommands_streamInv (t := t) hs
  obtain ⟨hgather, hsettle, hopen, hclose, hlife⟩ := deadlineCommands_streamInv (t := t) hs
  obtain ⟨hsent, htest, hstop⟩ := transmitterCommands_streamInv (t := t) hs
  obtain ⟨htimer, hidle, hrenotify, hsecond⟩ := trunkDeadlines_streamInv (t := t) hs
  cases c
  case fullReset => exact absurd rfl hc
  case fullResetEnd a b =>
    obtain rfl := Host.Outcome.next.inj h
    exact streamInv_ite (afterReset_streamInv _ _ _) (hs.keep (.ite (.of_eq rfl rfl) (.refl s)))
  case preambleLost ch => exact hpreamble ch h
  case syncMissing ch => exact hsync ch h
  case receiverError ch e => exact herror ch e h
  case copy c => exact hcopy c h
  case cellDecoded ch input => exact execCellDecoded_streamInv ch input hs h
  case gatherDeadline id q => exact hgather id q h
  case settleDeadline id q => exact hsettle id q h
  case windowOpen i => exact hopen i h
  case windowClose i => exact hclose i h
  case lifetimeDeadline i => exact hlife i h
  case transmissionEnd => exact hsent h
  case testEnd => exact htest h
  case stoppingEnd => exact hstop h
  case retransmitTimerExpiry => exact htimer h
  case idleDeadline => exact hidle h
  case renotifyDeadline => exact hrenotify h
  case perSecondBoundary => exact hsecond h
  case partTimeAdvance =>
    exact event_keepsStream (f := fun u => { u with tbs.partTime := u.tbs.partTime + 1 })
      (fun _ => .of_eq rfl rfl) hs h
  case frameBoundary => exact event_streamInv frameEnds_streamInv hs h
  case lineError => exact event_keepsStream takeLineError_keepsStream hs h
  case discardedContent c => exact event_streamInv (takeContent_streamInv c) hs h
  all_goals exact event_streamInv (frameArrives_streamInv _ _ _) hs h

theorem idleTick_keepsStream (s : State) : KeepsStream s (idleTick s) := by
  refine .ite ?_ (.refl s)
  unfold transmitTick
  split
  · exact .ite (.of_eq rfl rfl) (.refl s)
  · exact .of_eq rfl rfl
  all_goals exact .refl s

/-- A step keeps a property of the part while it runs, when the commands other than the beginning of a full reset keep
it, a tick keeps it, and the end of a full reset brings it about. -/
theorem step_whileRunning {P : State → Prop} (hqueue : ∀ {s queue}, P s → P { s with pending := queue })
    (hexec : ∀ {c s t}, c ≠ .fullReset → P s → exec c s = .next t → P t)
    (hreset : ∀ a b queue, P (State.afterReset a b queue)) (htick : ∀ {s}, P s → P (idleTick s)) {s t : State}
    (hs : WhileRunning P s) (h : step s = .next t) : WhileRunning P t := by
  intro ht
  unfold step at h
  split at h
  · rename_i c rest _
    cases hr : s.inReset with
    | false =>
      refine hexec ?_ (hqueue (hs hr)) h
      rintro rfl
      obtain rfl := Host.Outcome.next.inj h
      cases ht
    | true =>
      rcases exec_held_cases c (s := { s with pending := rest }) hr h with hheld | ⟨a, b, rfl⟩
      · rw [hheld] at ht; cases ht
      · exact hreset a b rest
  · obtain rfl := Host.Outcome.next.inj h
    exact htick (hs (idleTick_inReset s ▸ ht))

/-- Settles O57: every command but the beginning of a full reset, and every tick, keeps the invariant, and a full
reset ends with an empty stream. -/
theorem streamStaysConsistent : Obligations.StreamStaysConsistent :=
  fun _ _ => step_whileRunning (fun hs => hs.keep (.of_eq rfl rfl)) exec_streamInv afterReset_streamInv
    fun hs => hs.keep (idleTick_keepsStream _)

end Sys2Proof.Machine

/-! What the field side (chapters 2 to 5) may do to the trunk link, the alarm block and the parameters: it raises
causes, and nothing else. -/

namespace Sys2Proof.Machine

/-! ## Changes that govern neither trunk link, alarm block nor parameters -/

/-- What governs the trunk link, the alarm block and the parameters; every other field is set to its reset value. -/
def State.governed (s : State) : State :=
  { s with
    tbs := resetTimeBase false false, fra := resetReceiver, frb := resetReceiver
    stab.places := resetStationTable.places, rpf := resetFilter, dls := resetStore
    ftx := { resetTransmitter with params := s.ftx.params }
    dst := { resetStream with ackTimeoutMs := s.dst.ackTimeoutMs, stallLimit := s.dst.stallLimit }
    trk.sampler := .idle, trk.counters := zeroTrunkCounters
    alm.burstCount := 0, alm.renotifyDeadline := 0, pending := [] }

/-- `t` comes from `s` by raising causes and by changes to fields that do not govern. -/
inductive OnlyRaises (s : State) : State → Prop
  | refl : OnlyRaises s s
  | aside {t u : State} : OnlyRaises s t → u.governed = t.governed → OnlyRaises s u
  | raise {t : State} (c : Cause) : OnlyRaises s t → OnlyRaises s (raise c t)

theorem OnlyRaises.of_eq {s t : State} (h : t.governed = s.governed) : OnlyRaises s t := .aside .refl h

theorem OnlyRaises.trans {s t u : State} (h : OnlyRaises s t) (g : OnlyRaises t u) : OnlyRaises s u := by
  induction g with
  | refl => exact h
  | aside _ heq ih => exact ih.aside heq
  | raise c _ ih => exact ih.raise c

theorem OnlyRaises.from_eq {s t u : State} (g : OnlyRaises t u) (h : t.governed = s.governed) : OnlyRaises s u :=
  (OnlyRaises.of_eq h).trans g

theorem OnlyRaises.ite {p : Prop} [Decidable p] {s t u : State} (ht : OnlyRaises s t) (hu : OnlyRaises s u) :
    OnlyRaises s (if p then t else u) := by
  split <;> assumption

theorem raise_onlyRaises (c : Cause) (s : State) : OnlyRaises s (raise c s) := .raise c .refl

/-! ### Records and slots -/

theorem offerTelegram_onlyRaises (t : TelegramItem) (s : State) : OnlyRaises s (offerTelegram t s) :=
  .ite ((raise_onlyRaises _ _).from_eq rfl) (.of_eq rfl)

theorem closeRecord_onlyRaises (r : Record) (b : Bool) (s : State) : OnlyRaises s (closeRecord r b s) :=
  (offerTelegram_onlyRaises _ _).from_eq rfl

theorem dropRecord_onlyRaises (id : StationId) (q : Byte) (s : State) : OnlyRaises s (dropRecord id q s) := .of_eq rfl

theorem makePlace_onlyRaises (s : State) : OnlyRaises s (makePlace s) := by
  have hcounted : ∀ t : State, OnlyRaises t
      (raise .rtlPressure { t with rpf.counters.evictions := bump t.rpf.counters.evictions }) :=
    fun t => (raise_onlyRaises _ _).from_eq rfl
  unfold makePlace
  dsimp only
  split
  · exact (dropRecord_onlyRaises _ _ _).trans (hcounted _)
  · split
    · exact .refl
    · exact ((closeRecord_onlyRaises _ _ _).trans (dropRecord_onlyRaises _ _ _)).trans (hcounted _)

theorem offerItems_onlyRaises (l : List Record) (s : State) :
    OnlyRaises s (l.foldl (fun t r => offerTelegram (recordItem r none true) t) s) := by
  induction l generalizing s with
  | nil => exact .refl
  | cons r l ih => exact (offerTelegram_onlyRaises _ _).trans (ih _)

theorem closureClaim_onlyRaises (id : StationId) (s : State) : OnlyRaises s (closureClaim id s) :=
  (offerItems_onlyRaises _ _).from_eq rfl

theorem missWindow_onlyRaises (i : Fin 16) (d : Downlink) (s : State) : OnlyRaises s (missWindow i d s) :=
  (raise_onlyRaises _ _).from_eq rfl

theorem arbiter_onlyRaises (s : State) : OnlyRaises s (arbiter s) := by
  have hgrant : ∀ i, OnlyRaises s (grant i s) := by
    intro i
    unfold grant
    split <;> exact .of_eq rfl
  unfold arbiter
  split
  · split
    · exact hgrant _
    · exact .refl
  all_goals exact .refl

theorem offerSlot_onlyRaises (i : Fin 16) (s : State) : OnlyRaises s (offerSlot i s) :=
  (arbiter_onlyRaises _).from_eq rfl

theorem endTest_onlyRaises (s : State) : OnlyRaises s (endTest s) := (arbiter_onlyRaises _).from_eq rfl

theorem confirmStep_onlyRaises (n : FirstCopy) (s : State) : OnlyRaises s (confirmStep n s) := by
  rw [confirmStep_frame]; exact .of_eq rfl

theorem armStep_onlyRaises (n : FirstCopy) (s : State) : OnlyRaises s (armStep n s) := by
  have harm : ∀ i d e, OnlyRaises s (armSlot i d n e s) := fun i d e =>
    .ite ((missWindow_onlyRaises _ _ _).from_eq rfl) (.ite ((offerSlot_onlyRaises _ _).from_eq rfl) (.of_eq rfl))
  unfold armStep
  split
  · exact .refl
  · refine .ite ?_ .refl
    split
    · exact .refl
    · split
      · exact harm _ _ _
      all_goals exact .refl

theorem notifyStore_onlyRaises (n : FirstCopy) (s : State) : OnlyRaises s (notifyStore n s) :=
  (confirmStep_onlyRaises n s).trans (armStep_onlyRaises n _)

theorem discardClaim_onlyRaises (id : StationId) (s : State) : OnlyRaises s (discardClaim id s) := by
  obtain ⟨_, _, _, h⟩ := discardClaim_frame id s
  rw [h]; exact .of_eq rfl

theorem takeTransmissionEnd_onlyRaises (i : Fin 16) (s : State) : OnlyRaises s (takeTransmissionEnd i s) := by
  unfold takeTransmissionEnd
  split
  · exact .ite (.of_eq rfl) (.of_eq rfl)
  all_goals exact .refl

/-! ### Copies -/

theorem accept_onlyRaises (c : Copy) (check : Word16) (e : Option Entry) (s : State) :
    OnlyRaises s (accept c check e s) := by
  have hroom : ∀ t, OnlyRaises t (makeRoom t) := fun t => .ite (makePlace_onlyRaises t) .refl
  have hproduce : ∀ r t, OnlyRaises t (produceNow r (addRecord r t)) := fun r t =>
    (OnlyRaises.ite .refl (offerTelegram_onlyRaises _ _)).from_eq rfl
  have hadded := ((hroom { s with rpf.counters.accepted := bump s.rpf.counters.accepted }).from_eq
    (s := s) rfl).trans (hproduce (newRecord c check e s.stab) _)
  rw [accept_eq]
  exact .ite (hadded.trans (notifyStore_onlyRaises _ _)) hadded

theorem afterLookup_onlyRaises (c : Copy) (e : Option (Fin 64 × Entry)) (s : State) :
    OnlyRaises s (afterLookup c e s) := by
  unfold afterLookup
  dsimp only
  split
  · refine .ite ?_ (.of_eq rfl)
    rw [takeDuplicate_eq]; exact .of_eq rfl
  · split
    · unfold takeJudged
      split
      · exact (accept_onlyRaises _ _ _ _).from_eq rfl
      all_goals exact .of_eq rfl
    · exact accept_onlyRaises _ _ _ _

theorem learn_onlyRaises (id : StationId) (s : State) : OnlyRaises s (learn id s).1 := by
  unfold learn
  split
  · exact .of_eq rfl
  · exact (raise_onlyRaises _ _).from_eq rfl

theorem handleCopy_onlyRaises (c : Copy) (s : State) : OnlyRaises s (handleCopy c s) := by
  unfold handleCopy
  split
  · split
    · exact .of_eq rfl
    all_goals exact afterLookup_onlyRaises _ _ _
  · split
    · exact .of_eq rfl
    · exact afterLookup_onlyRaises _ _ _
    · exact (learn_onlyRaises _ _).trans (afterLookup_onlyRaises _ _ _)

/-! ### Receivers -/

theorem setReceiver_onlyRaises (ch : Channel) (r : Receiver) (s : State) : OnlyRaises s (setReceiver ch r s) :=
  .of_eq (by cases ch <;> rfl)

theorem losePreamble_onlyRaises (ch : Channel) (s : State) : OnlyRaises s (losePreamble ch s) := by
  rw [losePreamble_eq]; exact setReceiver_onlyRaises _ _ s

theorem missSync_onlyRaises (ch : Channel) (s : State) : OnlyRaises s (missSync ch s) := by
  rw [missSync_eq]; exact setReceiver_onlyRaises _ _ s

theorem bodyError_onlyRaises (ch : Channel) (e : BodyError) (s : State) : OnlyRaises s (bodyError ch e s) := by
  rw [bodyError_eq]
  have hreport : ∀ t, OnlyRaises t (reportReceiverError t) := fun t =>
    .ite ((raise_onlyRaises _ _).from_eq rfl) (.of_eq rfl)
  exact (setReceiver_onlyRaises _ _ s).trans (hreport _)

theorem handOver_onlyRaises (c : Copy) (s : State) : OnlyRaises s (handOver c s) := by
  rw [handOver_eq]
  exact (setReceiver_onlyRaises _ _ s).trans (handleCopy_onlyRaises c _)

theorem endTelegram_onlyRaises (ch : Channel) (t : Tracking) (bytes : List Byte) (reg : Word16) (s : State) :
    OnlyRaises s (endTelegram ch t bytes reg s) := by
  unfold endTelegram
  dsimp only
  refine .ite (bodyError_onlyRaises _ _ _) ?_
  split
  · exact bodyError_onlyRaises _ _ _
  · exact handOver_onlyRaises _ _

theorem decodedCell_onlyRaises (ch : Channel) (bit soft : Bool) (time : Nat) (s : State) :
    OnlyRaises s (decodedCell ch bit soft time s) := by
  have hset : ∀ st, OnlyRaises s (setRxState ch st s) := fun st => setReceiver_onlyRaises _ _ s
  cases hst : rxState s ch with
  | disabled => rw [decodedCell_disabled hst]; exact .refl
  | hunt c => rw [decodedCell_hunt hst]; exact hset _
  | preamble t n => rw [decodedCell_preamble hst]; exact .ite (losePreamble_onlyRaises _ _) (hset _)
  | sync t w fs n =>
    rw [decodedCell_sync hst]
    exact .ite (hset _) (.ite (missSync_onlyRaises _ _) (hset _))
  | body t bytes cur nbits reg =>
    rw [decodedCell_body hst]
    exact .ite (hset _) (.ite (bodyError_onlyRaises _ _ _) (.ite (endTelegram_onlyRaises _ _ _ _ _) (hset _)))

theorem applyVerdict_onlyRaises (ch : Channel) (v : CellVerdict) (s : State) :
    OnlyRaises s (applyVerdict ch v s) := by
  cases v with
  | waiting p =>
    show OnlyRaises s (setProgress ch p s)
    unfold setProgress
    split
    case h_1 | h_2 => exact .refl
    all_goals exact setReceiver_onlyRaises _ _ s
  | cell bit soft ref => exact decodedCell_onlyRaises _ _ _ _ s
  | violation =>
    show OnlyRaises s (violation ch s)
    unfold violation
    split
    case h_1 => exact .refl
    case h_5 => exact bodyError_onlyRaises _ _ s
    all_goals exact losePreamble_onlyRaises _ s

theorem lineQuiet_onlyRaises (ch : Channel) (time : Nat) (s : State) : OnlyRaises s (lineQuiet ch time s) := by
  have honce : ∀ t, OnlyRaises t (quietOnce ch time t) := by
    intro t
    unfold quietOnce
    split
    · exact .refl
    · exact applyVerdict_onlyRaises _ _ t
  exact (honce s).trans (honce _)

theorem lineEdge_onlyRaises (ch : Channel) (rising : Bool) (time : Nat) (s : State) :
    OnlyRaises s (lineEdge ch rising time s) := by
  have hact : ∀ t, OnlyRaises t (actOnEdge ch rising time t) := by
    intro t
    unfold actOnEdge
    split
    case h_1 => exact .refl
    case h_2 hidle => rw [anchorEdge_eq hidle]; exact setReceiver_onlyRaises _ _ t
    all_goals
      split
      · exact .refl
      · exact applyVerdict_onlyRaises _ _ t
  rw [lineEdge_eq]
  exact (lineQuiet_onlyRaises ch (time - 1) s).trans (hact _)

end Sys2Proof.Machine

/-! What a property must survive to be kept by every command: the requests, the sender, the trunk receiver and the
deadlines, each reduced to a few changes. -/

namespace Sys2Proof.Machine

/-! ## The stream -/

/-- R123–R126: an ACK changes no parameter of the stream. -/
theorem takeAck_onlyRaises (n : Byte) (s : State) : OnlyRaises s (takeAck n s) := by
  obtain ⟨places, hr⟩ := removeAcked_frame (ackCount s.dst n) s
  cases hv : ackValid s n with
  | false => rw [takeAck_invalid hv]; exact .of_eq rfl
  | true =>
    cases hstate : s.dst.state with
    | running =>
      rcases Nat.eq_zero_or_pos (ackCount s.dst n) with ha | ha
      · rw [takeAck_none hv hstate ha]; exact .refl
      · rw [takeAck_running hv hstate ha, hr]; exact .of_eq rfl
    | stalled => rw [takeAck_stalled hv hstate, hr]; exact .of_eq rfl

theorem timerExpires_onlyRaises (s : State) : OnlyRaises s (timerExpires s) :=
  .ite (.of_eq rfl) ((raise_onlyRaises _ _).from_eq rfl)

/-! ## Requests -/

/-- The effect of a request that no close and no restart waits for. -/
inductive RequestEffect (s : State) : State → Prop
  | onlyRaises {t : State} : OnlyRaises s t → RequestEffect s t
  | opens (mode : OpenMode) : RequestEffect s (openSession mode s)
  | sets (p : Param) (v : Nat) : p.inRange v = true → RequestEffect s (setParam p v s)
  | clears (c : Cause) : RequestEffect s (clearCause c s)

theorem RequestEffect.refl {s : State} : RequestEffect s s := .onlyRaises .refl

theorem reqOpenSession_effect (args : List Byte) (s : State) : RequestEffect s (reqOpenSession args s).2 := by
  unfold reqOpenSession
  split
  · split
    · exact .refl
    · exact .opens _
  · exact .refl

theorem reqSetParameter_effect (args : List Byte) (s : State) : RequestEffect s (reqSetParameter args s).2 := by
  unfold reqSetParameter
  split
  · exact .refl
  · split
    · exact .refl
    · split
      · exact .refl
      · split
        · exact .refl
        · exact .sets _ _ (by simpa using ‹¬ (!_) = true›)

theorem reqClearCause_effect (args : List Byte) (s : State) : RequestEffect s (reqClearCause args s).2 := by
  unfold reqClearCause
  split
  · split
    · exact .refl
    · exact .clears _
  · exact .refl

theorem reqPutStation_onlyRaises (args : List Byte) (s : State) : OnlyRaises s (reqPutStation args s).2 := by
  rcases reqPutStation_cases args s with ⟨st, h⟩ | ⟨id, settings, h⟩
  · rw [h]; exact .refl
  · rw [h]
    unfold putStation
    split
    · exact .of_eq rfl
    · split
      · exact .refl
      · exact .of_eq rfl

theorem reqDropStation_onlyRaises (args : List Byte) (s : State) : OnlyRaises s (reqDropStation args s).2 := by
  have hdrop : ∀ i id, OnlyRaises s (dropStation i id s) := fun i id =>
    ((closureClaim_onlyRaises id (setPlace i none s)).trans (discardClaim_onlyRaises id _)).from_eq rfl
  unfold reqDropStation
  split
  · dsimp only
    split
    · exact .refl
    · split
      · exact .refl
      · split
        · exact .refl
        · rw [done_snd]; exact hdrop _ _
  · exact .refl

theorem reqQueueDownlink_onlyRaises (args : List Byte) (s : State) : OnlyRaises s (reqQueueDownlink args s).2 := by
  have hqueue : ∀ id hostTag attempts lifetimeS payload,
      OnlyRaises s (queueDownlink id hostTag attempts lifetimeS payload s).2 := by
    intro id hostTag attempts lifetimeS payload
    unfold queueDownlink
    split
    · exact .refl
    · split
      · exact .refl
      · split
        · exact .refl
        · split
          · exact .refl
          · exact .of_eq rfl
  unfold reqQueueDownlink
  split
  · dsimp only
    split
    · exact .refl
    · split
      · exact hqueue _ _ _ _ _
      · exact .refl
  · exact .refl

theorem reqCancelDownlink_onlyRaises (args : List Byte) (s : State) : OnlyRaises s (reqCancelDownlink args s).2 := by
  have hcancel : ∀ i, OnlyRaises s (cancelSlot i s).2 := by
    intro i
    unfold cancelSlot
    split <;> exact .of_eq rfl
  unfold reqCancelDownlink
  split
  · split
    · exact .refl
    · exact .refl
    · exact hcancel _
  · exact .refl

theorem reqCarrierTest_onlyRaises (args : List Byte) (s : State) : OnlyRaises s (reqCarrierTest args s).2 := by
  have htest : ∀ ms, OnlyRaises s (carrierTest ms s).2 := by
    intro ms
    unfold carrierTest
    dsimp only
    split <;> exact .of_eq rfl
  unfold reqCarrierTest
  split
  · split
    · exact htest _
    · exact .refl
  · exact .refl

theorem reqCarrierStop_onlyRaises (args : List Byte) (s : State) : OnlyRaises s (reqCarrierStop args s).2 := by
  unfold reqCarrierStop
  split
  · split
    · exact endTest_onlyRaises s
    all_goals exact .refl
  · exact .refl

theorem reqClearCounters_onlyRaises (args : List Byte) (s : State) : OnlyRaises s (reqClearCounters args s).2 := by
  unfold reqClearCounters
  split
  · split
    · exact .refl
    · rename_i g _
      cases g <;> exact .of_eq rfl
  · exact .refl

theorem requestEffect_ite {p : Prop} [Decidable p] {s : State} {x y : Reply × State} (hx : RequestEffect s x.2)
    (hy : RequestEffect s y.2) : RequestEffect s (if p then x else y).2 := by
  split <;> assumption

/-- R167: carrying out a request other than CLOSE-SESSION and WARM-RESTART. -/
theorem carryOut_effect {code : Byte} (hclose : code ≠ 0x11) (hrestart : code ≠ 0x13) (args : List Byte) (s : State) :
    RequestEffect s (carryOut code args s).2 := by
  have hstatus : RequestEffect s (reqGetStatus args s).2 := by rw [reqGetStatus_snd]; exact .refl
  have hget : RequestEffect s (reqGetParameter args s).2 := by rw [reqGetParameter_snd]; exact .refl
  have hstation : RequestEffect s (reqGetStation args s).2 := by rw [reqGetStation_snd]; exact .refl
  have hlist : RequestEffect s (reqListStations args s).2 := by rw [reqListStations_snd]; exact .refl
  have hdownlink : RequestEffect s (reqGetDownlink args s).2 := by rw [reqGetDownlink_snd]; exact .refl
  have hcauses : RequestEffect s (reqGetCauses args s).2 := by rw [reqGetCauses_snd]; exact .refl
  have hcounters : RequestEffect s (reqGetCounters args s).2 := by rw [reqGetCounters_snd]; exact .refl
  unfold carryOut
  rw [if_neg hclose, if_neg hrestart]
  exact requestEffect_ite (reqOpenSession_effect _ _) (requestEffect_ite hstatus
    (requestEffect_ite (reqSetParameter_effect _ _) (requestEffect_ite hget
    (requestEffect_ite (.onlyRaises (reqPutStation_onlyRaises _ _))
    (requestEffect_ite (.onlyRaises (reqDropStation_onlyRaises _ _)) (requestEffect_ite hstation
    (requestEffect_ite hlist (requestEffect_ite (.onlyRaises (reqQueueDownlink_onlyRaises _ _))
    (requestEffect_ite (.onlyRaises (reqCancelDownlink_onlyRaises _ _)) (requestEffect_ite hdownlink
    (requestEffect_ite hcauses (requestEffect_ite (reqClearCause_effect _ _) (requestEffect_ite hcounters
    (requestEffect_ite (.onlyRaises (reqClearCounters_onlyRaises _ _))
    (requestEffect_ite (.onlyRaises (reqCarrierTest_onlyRaises _ _))
      (.onlyRaises (reqCarrierStop_onlyRaises _ _)))))))))))))))))

/-- R158, R166: a judged request has an effect that the engine does not wait for, or it is a CLOSE-SESSION or
WARM-RESTART carried out, and the engine waits. -/
theorem judgeRequest_cases (code : Byte) (args : List Byte) (s : State) :
    concludesSession code (judgeRequest code args s).1.status = false ∧
        RequestEffect s (judgeRequest code args s).2 ∨
      concludesSession code (judgeRequest code args s).1.status = true ∧
        ∃ m, m ≠ .ready ∧ (judgeRequest code args s).2 = { s with mre := m } := by
  have hrefused : ∀ {st}, st ≠ .ok → concludesSession code (refuse st s).1.status = false ∧
      RequestEffect s (refuse st s).2 := fun {st} hst =>
    ⟨by rw [concludesSession, refuse, beq_eq_false_iff_ne.mpr hst, Bool.and_false], .refl⟩
  unfold judgeRequest
  split
  · exact .inl (hrefused nofun)
  · split
    · exact .inl (hrefused nofun)
    · by_cases hclose : code = 0x11
      · subst hclose
        cases args with
        | nil => exact .inr ⟨rfl, .closing, nofun, rfl⟩
        | cons a as => exact .inl (hrefused (st := .badFormat) nofun)
      by_cases hrestart : code = 0x13
      · subst hrestart
        cases args with
        | nil => exact .inr ⟨rfl, .restarting, nofun, rfl⟩
        | cons a as => exact .inl (hrefused (st := .badFormat) nofun)
      · refine .inl ⟨?_, carryOut_effect hclose hrestart args s⟩
        rw [concludesSession, beq_eq_false_iff_ne.mpr hclose, beq_eq_false_iff_ne.mpr hrestart]
        rfl

/-! ## The changes -/

/-- R148: a content that the assembler collects is no longer than 84 bytes, or it is the one it was collecting. -/
def Assembler.Follows (old new : Assembler) : Prop :=
  ∀ content escaped, new = .collecting content escaped →
    content.length ≤ 84 ∨ ∃ before, old = .collecting content before

/-- The changes that a property survives when every command other than the beginning of a full reset keeps it. -/
structure Survives (P : State → Prop) : Prop where
  /-- fields that do not govern -/
  aside : ∀ {s t}, P s → t.governed = s.governed → P t
  /-- R135 -/
  raise : ∀ {s} c, P s → P (raise c s)
  /-- R159 -/
  restartIdle : ∀ {s}, P s → P (restartIdle s)
  /-- R148 -/
  assembles : ∀ {s x}, P s → s.trk.assembler.Follows x → P { s with trk.assembler := x }
  /-- R150 -/
  holds : ∀ {s} q, P s → s.trk.held.length < 2 → P { s with trk.held := s.trk.held ++ [q] }
  /-- R151: the oldest request leaves the buffer -/
  takesOut : ∀ {s q rest}, P s → s.trk.held = q :: rest → P { s with trk.held := rest }
  /-- R153 -/
  records : ∀ {s} r, P s → P (recordResponse r s)
  /-- R151, R154 -/
  responds : ∀ {s} r, P s → s.trk.responses.length < 4 → P (pushResponse r false s)
  /-- R158, R166: the engine waits for the response -/
  concludes : ∀ {s m} r, P s → s.mre = .ready → m ≠ .ready → s.trk.responses.length < 4 →
    P (pushResponse r true { s with mre := m })
  /-- R156 -/
  opens : ∀ {s} mode, P s → P (openSession mode s)
  /-- R175 -/
  sets : ∀ {s} p v, P s → p.inRange v = true → P (setParam p v s)
  /-- R140 -/
  clears : ∀ {s} c, P s → P (clearCause c s)
  /-- R162 -/
  sends : ∀ {s}, P s → s.trk.line = none → P (takeFrame s)
  /-- R158 -/
  frameEnds : ∀ {s}, P s → P (frameEnds s)
  /-- R160 -/
  idleTimeout : ∀ {s}, P s → P (idleTimeout s)
  /-- R138 -/
  reminds : ∀ {s}, P s → P (joinAllNotices s)
  /-- R197 -/
  resets : ∀ a b queue, P (State.afterReset a b queue)

theorem kept_ite {P : State → Prop} {p : Prop} [Decidable p] {s t : State} (hs : P s) (ht : P t) :
    P (if p then s else t) := by
  split <;> assumption

section Survival

variable {P : State → Prop} (hP : Survives P)

include hP

theorem Survives.field {s t : State} (hs : P s) (h : OnlyRaises s t) : P t := by
  induction h with
  | refl => exact hs
  | aside _ heq ih => exact hP.aside ih heq
  | raise c _ ih => exact hP.raise c ih

theorem Survives.effect {s t : State} (hs : P s) (h : RequestEffect s t) : P t := by
  cases h with
  | onlyRaises h => exact hP.field hs h
  | opens mode => exact hP.opens mode hs
  | sets p v hv => exact hP.sets p v hs hv
  | clears c => exact hP.clears c hs

/-! ## The closing of an event -/

theorem Survives.takeIn (q : HeldRequest) {s : State} (hs : P s) (hopen : intakeOpen s = true) : P (takeIn q s) := by
  obtain ⟨hready, hroom⟩ := (Bool.and_eq_true _ _).mp hopen
  have hroom := of_decide_eq_true hroom
  unfold Machine.takeIn
  split
  · exact hP.responds _ hs hroom
  · rename_i code args _
    split
    · exact hP.responds _ (hP.aside hs rfl) hroom
    · unfold answerAfresh
      obtain ⟨_, _, _, _, _, _, _, _, _, _, _, _, _, _, _, _, _, hframe⟩ := judgeRequest_frame code args s
      have hrecorded : ∀ r t, (recordResponse r t).trk.responses = t.trk.responses ∧
          (recordResponse r t).mre = t.mre := fun r t => by unfold recordResponse; split <;> exact ⟨rfl, rfl⟩
      dsimp only
      rcases judgeRequest_cases code args s with ⟨hplain, heffect⟩ | ⟨hwaits, m, hm, heffect⟩
      · rw [hplain]
        refine hP.responds _ (hP.records _ (hP.effect hs heffect)) ?_
        rw [(hrecorded _ _).1, hframe]
        exact hroom
      · rw [hwaits, heffect]
        have hmove : ∀ r, recordResponse r { s with mre := m } = { recordResponse r s with mre := m } := fun r => by
          unfold recordResponse; split <;> rfl
        rw [hmove]
        refine hP.concludes _ (hP.records _ hs) ?_ hm ?_
        · rw [(hrecorded _ _).2]; exact eq_of_beq hready
        · rw [(hrecorded _ _).1]; exact hroom

theorem Survives.intakes (n : Nat) {s : State} (hs : P s) : P (intakes n s) := by
  induction n generalizing s with
  | zero => exact hs
  | succ n ih =>
    unfold Machine.intakes
    split
    · exact hs
    · split
      · exact ih (hP.takeIn _ (hP.takesOut hs ‹_›) ‹_›)
      · exact hs

theorem Survives.settle {s : State} (hs : P s) : P (settle s) := by
  have hdecides : ∀ {t}, P t → P (senderDecides t) := by
    intro t ht
    unfold senderDecides
    split
    · exact ht
    · exact hP.sends ht ‹_›
  exact hP.intakes _ (hdecides (hP.intakes _ hs))

/-- An event keeps the property when its effect does. -/
theorem Survives.event {f : State → State} (hf : ∀ {s}, P s → P (f s)) {s t : State} (hs : P s)
    (h : event f s = .next t) : P t := by
  obtain rfl := Host.Outcome.next.inj h
  exact kept_ite (hP.settle (hf hs)) hs

theorem Survives.fieldEvent {f : State → State} (hf : ∀ s, OnlyRaises s (f s)) {s t : State} (hs : P s)
    (h : Machine.event f s = .next t) : P t :=
  hP.event (fun hu => hP.field hu (hf _)) hs h

/-! ## The trunk receiver -/

theorem Survives.newContent {s : State} (hs : P s) : P (newContent s) :=
  hP.assembles hs fun content escaped h => by
    obtain ⟨rfl, -⟩ := Assembler.collecting.inj h
    exact .inl (Nat.zero_le _)

theorem Survives.discardContent (f : ContentFault) {s : State} (hs : P s) : P (discardContent f s) := by
  refine hP.raise _ (hP.aside (s := { s with trk.assembler := assemblerAfter f }) (hP.assembles hs ?_) rfl)
  intro content escaped h
  cases f
  case badEscape | oversize => cases h
  all_goals
    obtain ⟨rfl, -⟩ := Assembler.collecting.inj h
    exact .inl (Nat.zero_le _)

theorem Survives.takeLineError {s : State} (hs : P s) : P (takeLineError s) :=
  hP.raise _ (hP.aside (s := { s with trk.assembler := .hunt }) (hP.assembles hs nofun) rfl)

theorem Survives.counted {s : State} (hs : P s) : P (counted s) :=
  hP.restartIdle (hP.aside (hP.newContent hs) rfl)

theorem Survives.holdRequest (tag : Byte) (body : List Byte) {s : State} (hs : P s) : P (holdRequest tag body s) := by
  unfold Machine.holdRequest
  split
  · exact hP.holds _ hs ‹_›
  · exact hP.raise _ (hP.aside hs rfl)

theorem Survives.receiveFrame (kind tag : Byte) (body : List Byte) {s : State} (hs : P s) :
    P (receiveFrame kind tag body s) := by
  have hcounted : P (Machine.counted s) := hP.counted hs
  have hkind : P (discardKind (Machine.newContent s)) := hP.aside (hP.newContent hs) rfl
  exact kept_ite (hP.newContent (hP.discardContent _ hs))
    (kept_ite (kept_ite (hP.field hcounted (takeAck_onlyRaises _ _)) hkind)
      (kept_ite (hP.holdRequest _ _ hcounted) hkind))

theorem Survives.addContent {content : List Byte} (b : Byte) {s : State} (hs : P s) : P (addContent content b s) := by
  unfold Machine.addContent
  split
  · exact hP.discardContent _ hs
  · refine hP.assembles hs fun content' escaped h => .inl ?_
    obtain ⟨rfl, -⟩ := Assembler.collecting.inj h
    rw [List.length_append, List.length_singleton]
    omega

theorem Survives.endContent (content : List Byte) {s : State} (hs : P s) : P (endContent content s) := by
  unfold Machine.endContent
  split
  · exact hP.newContent hs
  · exact kept_ite (hP.discardContent _ hs) (kept_ite (hP.receiveFrame _ _ _ hs) (hP.discardContent _ hs))
  · exact hP.discardContent _ hs

theorem Survives.byteEffect (b : Byte) {s : State} (hs : P s) : P (byteEffect b s) := by
  unfold Machine.byteEffect
  split
  · exact kept_ite (hP.newContent hs) hs
  · rename_i content hcollects
    refine kept_ite (hP.endContent _ hs) (kept_ite (hP.assembles hs fun content' escaped h => ?_) (hP.addContent _ hs))
    obtain ⟨rfl, -⟩ := Assembler.collecting.inj h
    exact .inr ⟨false, hcollects⟩
  · exact kept_ite (hP.addContent _ hs) (kept_ite (hP.addContent _ hs)
      (kept_ite (hP.discardContent _ hs) (hP.discardContent _ hs)))

theorem Survives.takeSamples (due : Nat → Bool) (n : Nat) {s : State} (hs : P s) : P (takeSamples due n s) := by
  have hsampled : ∀ x, P (setSampler x s) := fun x => hP.aside hs rfl
  rcases takeSamples_frame due n s with ⟨x, h⟩ | ⟨b, h⟩ | h
  · rw [h]; exact hsampled x
  · rw [h]; exact hP.byteEffect b (hsampled _)
  · rw [h]; exact hP.takeLineError (hsampled _)

theorem Survives.receiveByte (b : Byte) {s : State} (hs : P s) : P (receiveByte s b) :=
  hP.settle (hP.byteEffect b hs)

theorem Survives.frameArrives (kind tag : Byte) (body : List Byte) {s : State} (hs : P s) :
    P (frameArrives kind tag body s) := by
  have hopening : P (openingDelimiter s) := by
    unfold openingDelimiter
    split
    case h_1 | h_2 => exact hP.newContent hs
    all_goals exact hP.receiveByte _ hs
  exact hP.receiveFrame _ _ _ hopening

theorem Survives.takeContent (c : TrunkContent) {s : State} (hs : P s) : P (takeContent c s) := by
  cases c with
  | fault f => exact hP.discardContent _ hs
  | bytes bs =>
    show P (bs.foldl Machine.receiveByte s)
    induction bs generalizing s with
    | nil => exact hs
    | cons b bs ih => exact ih (hP.receiveByte b hs)
  | edge rising time =>
    obtain ⟨x, h⟩ := trunkEdge_frame rising time s
    show P (trunkEdge rising time s)
    rw [h]; exact hP.aside (hP.takeSamples _ _ hs) rfl
  | quiet time => exact hP.takeSamples _ _ hs

/-! ## Every command -/

theorem Survives.execCellDecoded (ch : Channel) (input : CellInput) {s t : State} (hs : P s)
    (h : execCellDecoded ch input s = .next t) : P t := by
  cases input with
  | decided bit soft time => exact hP.fieldEvent (decodedCell_onlyRaises _ _ _ _) hs h
  | edge rising time => exact hP.fieldEvent (lineEdge_onlyRaises _ _ _) hs h
  | quiet time => exact hP.fieldEvent (lineQuiet_onlyRaises _ _) hs h
  | refclk running =>
    obtain rfl := Host.Outcome.next.inj h
    have hruns : P { s with tbs.refclkRunning := true } := hP.aside hs rfl
    refine kept_ite ?_ (hP.aside hs rfl)
    unfold startRefclk
    refine kept_ite ?_ (hP.settle hruns)
    split
    · exact hP.resets _ _ _
    · exact hruns

/-- The commands of the receivers that come to a loss, an error or a copy. -/
theorem Survives.receiverCommands {s t : State} (hs : P s) :
    (∀ ch, execPreambleLost ch s = .next t → P t) ∧ (∀ ch, execSyncMissing ch s = .next t → P t) ∧
      (∀ ch e, execReceiverError ch e s = .next t → P t) ∧ ∀ c, execCopy c s = .next t → P t := by
  refine ⟨fun ch h => ?_, fun ch h => ?_, fun ch e => hP.fieldEvent (fun u => ?_) hs,
    fun c => hP.fieldEvent (fun u => ?_) hs⟩
  · exact hP.fieldEvent (fun u => .ite (losePreamble_onlyRaises _ u) .refl) hs ((exec_preambleLost ch s).symm.trans h)
  · exact hP.fieldEvent (fun u => .ite (missSync_onlyRaises _ u) .refl) hs ((exec_syncMissing ch s).symm.trans h)
  · exact .ite (bodyError_onlyRaises _ _ u) .refl
  · exact .ite .refl (.ite (handOver_onlyRaises _ u) (bodyError_onlyRaises _ _ u))

/-- The deadlines of records and slots. -/
theorem Survives.deadlineCommands {s t : State} (hs : P s) :
    (∀ id q, execGatherDeadline id q s = .next t → P t) ∧ (∀ id q, execSettleDeadline id q s = .next t → P t) ∧
      (∀ i, execWindowOpen i s = .next t → P t) ∧ (∀ i, execWindowClose i s = .next t → P t) ∧
      ∀ i, execLifetimeDeadline i s = .next t → P t := by
  refine ⟨fun id q => hP.fieldEvent (fun u => ?_) hs, fun id q => hP.fieldEvent (fun u => ?_) hs,
    fun i => hP.fieldEvent (fun u => ?_) hs, fun i => hP.fieldEvent (fun u => ?_) hs,
    fun i => hP.fieldEvent (fun u => ?_) hs⟩
  · split
    · exact .refl
    · split
      · exact .refl
      · exact .ite (closeRecord_onlyRaises _ _ u) .refl
  · split
    · exact .refl
    · refine .ite ?_ .refl
      exact (OnlyRaises.ite (closeRecord_onlyRaises _ _ u) .refl).trans (dropRecord_onlyRaises _ _ _)
  · split
    · exact .ite (offerSlot_onlyRaises _ u) .refl
    all_goals exact .refl
  · split
    · exact .ite (missWindow_onlyRaises _ _ u) .refl
    all_goals exact .refl
  · split
    case h_4 | h_5 | h_6 => exact .refl
    all_goals exact .ite (.of_eq rfl) .refl

/-- The ends of what the transmitter does. -/
theorem Survives.transmitterCommands {s t : State} (hs : P s) :
    (execTransmissionEnd s = .next t → P t) ∧ (execTestEnd s = .next t → P t) ∧
      (execStoppingEnd s = .next t → P t) := by
  refine ⟨hP.fieldEvent (fun u => ?_) hs, hP.fieldEvent (fun u => ?_) hs, hP.fieldEvent (fun u => ?_) hs⟩
  · split
    · refine .ite .refl (OnlyRaises.trans ?_ (arbiter_onlyRaises _))
      exact (takeTransmissionEnd_onlyRaises _ _).from_eq rfl
    all_goals exact .refl
  · split
    · exact .ite (endTest_onlyRaises u) .refl
    all_goals exact .refl
  · split
    · exact endTest_onlyRaises u
    all_goals exact .refl

/-- The deadlines of the stream, the session and the alarm block. -/
theorem Survives.trunkDeadlines {s t : State} (hs : P s) :
    (execRetransmitTimerExpiry s = .next t → P t) ∧ (execIdleDeadline s = .next t → P t) ∧
      (execRenotifyDeadline s = .next t → P t) ∧ (execPerSecondBoundary s = .next t → P t) := by
  refine ⟨hP.fieldEvent (fun u => ?_) hs, hP.event (fun {u} hu => ?_) hs, hP.event (fun {u} hu => ?_) hs,
    hP.fieldEvent (fun u => ?_) hs⟩
  · split
    · exact .ite (timerExpires_onlyRaises u) .refl
    · exact .refl
  · split
    · exact kept_ite (hP.idleTimeout hu) hu
    all_goals exact hu
  · exact kept_ite (hP.aside (hP.reminds hu) rfl) hu
  · exact .ite (.of_eq rfl) .refl

/-- Every command but the beginning of a full reset keeps the property, in any state. -/
theorem Survives.exec {c : Instr} {s t : State} (hc : c ≠ .fullReset) (hs : P s) (h : exec c s = .next t) : P t := by
  obtain ⟨hpreamble, hsync, herror, hcopy⟩ := hP.receiverCommands (t := t) hs
  obtain ⟨hgather, hsettle, hopen, hclose, hlife⟩ := hP.deadlineCommands (t := t) hs
  obtain ⟨hsent, htest, hstop⟩ := hP.transmitterCommands (t := t) hs
  obtain ⟨htimer, hidle, hrenotify, hsecond⟩ := hP.trunkDeadlines (t := t) hs
  cases c
  case fullReset => exact absurd rfl hc
  case fullResetEnd a b =>
    obtain rfl := Host.Outcome.next.inj h
    exact kept_ite (hP.resets _ _ _) (kept_ite (hP.aside hs rfl) hs)
  case preambleLost ch => exact hpreamble ch h
  case syncMissing ch => exact hsync ch h
  case receiverError ch e => exact herror ch e h
  case copy c => exact hcopy c h
  case cellDecoded ch input => exact hP.execCellDecoded ch input hs h
  case gatherDeadline id q => exact hgather id q h
  case settleDeadline id q => exact hsettle id q h
  case windowOpen i => exact hopen i h
  case windowClose i => exact hclose i h
  case lifetimeDeadline i => exact hlife i h
  case transmissionEnd => exact hsent h
  case testEnd => exact htest h
  case stoppingEnd => exact hstop h
  case retransmitTimerExpiry => exact htimer h
  case idleDeadline => exact hidle h
  case renotifyDeadline => exact hrenotify h
  case perSecondBoundary => exact hsecond h
  case partTimeAdvance =>
    exact hP.fieldEvent (f := fun u => { u with tbs.partTime := u.tbs.partTime + 1 }) (fun _ => .of_eq rfl) hs h
  case frameBoundary => exact hP.event hP.frameEnds hs h
  case lineError => exact hP.event hP.takeLineError hs h
  case discardedContent c => exact hP.event (hP.takeContent c) hs h
  all_goals exact hP.event (hP.frameArrives _ _ _) hs h

theorem Survives.idleTick {s : State} (hs : P s) : P (idleTick s) := by
  refine kept_ite (hP.field hs ?_) hs
  unfold transmitTick
  split
  · exact .ite (.of_eq rfl) .refl
  · exact .of_eq rfl
  all_goals exact .refl

end Survival

/-- A property that survives the changes is kept by every step while the part runs. -/
theorem Survives.step {P : State → Prop} (hP : Survives P) {s t : State} (hs : WhileRunning P s)
    (h : step s = .next t) : WhileRunning P t :=
  step_whileRunning (fun hu => hP.aside hu rfl) hP.exec hP.resets hP.idleTick hs h

end Sys2Proof.Machine

/-! The consistency of the trunk link (chapter 8): its buffers, the notice set and the idle deadline, and the engine
that waits for the response still to be sent. -/

namespace Sys2Proof.Machine

/-! ## The invariant without the engine -/

/-- The trunk link but for the engine (R136, R148, R150, R152, R154, R155, R159, R162). -/
structure LinkSound (s : State) : Prop where
  heldTwo : s.trk.held.length ≤ 2
  queueFour : s.trk.responses.length ≤ 4
  cacheFour : s.trk.cache.length ≤ 4
  cacheTags : (s.trk.cache.map CacheRecord.tag).Nodup
  cacheNonzero : ∀ k ∈ s.trk.cache, k.tag ≠ 0
  waitThree : s.trk.streamWait ≤ 3
  content : ∀ bs esc, s.trk.assembler = .collecting bs esc → bs.length ≤ 84
  members : ∀ c, inNotices s c = true → noticeDue s c = true
  idle : ∀ d, s.trk.session = .opened d → (d = none ↔ s.trk.sessionIdleS = 0)

/-- R158, R166: the engine waits exactly while a concluding response is still to be sent. -/
def EngineAgrees (s : State) : Prop := concluding s = if s.mre = .ready then 0 else 1

theorem trunkInv_iff {s : State} : TrunkInv s ↔ LinkSound s ∧ EngineAgrees s :=
  ⟨fun h => ⟨{ h with }, h.engine⟩, fun ⟨h, hengine⟩ => { h with engine := hengine }⟩

theorem trunkInv_governed {s : State} : TrunkInv s.governed ↔ TrunkInv s :=
  ⟨fun h => { h with }, fun h => { h with }⟩

/-! ## The notice set -/

theorem noticeDue_iff {s : State} {c : Cause} : noticeDue s c = true ↔
    s.trk.session.isOpen = true ∧ pendingCause s c = true ∧ 1 ≤ (causeState s c).level := by
  simp [noticeDue, and_assoc]

/-- R136: an emptied notice set. -/
theorem inNotices_empty {s : State} (h : s.trk.notices = Vector.replicate 8 false) (c : Cause) :
    inNotices s c = false := by
  rw [inNotices, h, Fin.getElem_fin, Vector.getElem_replicate]

theorem inNotices_setNotice (c c' : Cause) (b : Bool) (s : State) :
    inNotices (setNotice c b s) c' = if c' = c then b else inNotices s c' := by
  have hindex : c'.index = c.index ↔ c' = c := by cases c' <;> cases c <;> decide
  rw [inNotices, setNotice_trk_notices, vector_set_fin]
  simp only [hindex]
  rfl

/-- R136: a cause's state and its notice change together; the notice is in the set only while the new state is
pending at level 1 or more in an OPEN session. -/
theorem LinkSound.setCause {s : State} (hs : LinkSound s) (c : Cause) {k : CauseState} {b : Bool}
    (h : b = true → s.trk.session.isOpen = true ∧ k.occurrence.isSome = true ∧ 1 ≤ k.level) :
    LinkSound (setNotice c b (setCause c k s)) := by
  refine { hs with members := fun c' hin => ?_ }
  have hstate : causeState (setNotice c b (Machine.setCause c k s)) c' = if c' = c then k else causeState s c' :=
    causeState_setCause c c' k s
  rw [inNotices_setNotice] at hin
  rw [noticeDue_iff, pendingCause, hstate]
  by_cases hc : c' = c
  · rw [if_pos hc] at hin ⊢
    exact h hin
  · rw [if_neg hc] at hin ⊢
    exact noticeDue_iff.mp (hs.members c' hin)

/-- A member of the notice set is pending at level 1 or more in an OPEN session. -/
theorem LinkSound.member {s : State} (hs : LinkSound s) {c : Cause} (h : inNotices s c = true) :
    s.trk.session.isOpen = true ∧ pendingCause s c = true ∧ 1 ≤ (causeState s c).level :=
  noticeDue_iff.mp (hs.members c h)

theorem raise_linkSound (c : Cause) {s : State} (hs : LinkSound s) : LinkSound (raise c s) := by
  cases h : (causeState s c).occurrence with
  | some o =>
    rw [raise_of_pending h, ← setNotice_inNotices (setCause c _ s) c]
    refine hs.setCause c fun hin => ?_
    obtain ⟨hopen, -, hlevel⟩ := hs.member hin
    exact ⟨hopen, rfl, hlevel⟩
  | none =>
    have hjoined := hs.setCause c (k := { causeState s c with occurrence := some { count := 1, first := s.now } })
      (b := inNotices s c || noticeDue (setCause c
        { causeState s c with occurrence := some { count := 1, first := s.now } } s) c) fun hin => by
      rcases (Bool.or_eq_true _ _).mp hin with hin | hin
      · obtain ⟨hopen, -, hlevel⟩ := hs.member hin
        exact ⟨hopen, rfl, hlevel⟩
      · obtain ⟨hopen, -, hlevel⟩ := noticeDue_iff.mp hin
        rw [causeState_setCause, if_pos rfl] at hlevel
        exact ⟨hopen, rfl, hlevel⟩
    rw [raise_of_clear h, joinNotice_eq]
    exact { hjoined with }

theorem setLevel_linkSound (c : Cause) (v : Nat) {s : State} (hs : LinkSound s) : LinkSound (setLevel c v s) := by
  have hset : LinkSound (setNotice c (noticeAtLevel s c v) (setCause c { causeState s c with level := v } s)) := by
    refine hs.setCause c fun hin => ?_
    unfold noticeAtLevel at hin
    split at hin
    · cases hin
    · have hv : 1 ≤ v := by omega
      rcases (Bool.or_eq_true _ _).mp hin with hin | hin
      · obtain ⟨hopen, hpending, -⟩ := hs.member hin
        exact ⟨hopen, hpending, hv⟩
      · obtain ⟨hpending, hopen⟩ := (Bool.and_eq_true _ _).mp hin
        exact ⟨hopen, ((Bool.and_eq_true _ _).mp hpending).2, hv⟩
  rw [setLevel_eq]
  exact { hset with }

theorem clearCause_linkSound (c : Cause) {s : State} (hs : LinkSound s) : LinkSound (clearCause c s) := by
  have hset : LinkSound (setNotice c false (setCause c { causeState s c with occurrence := none } s)) :=
    hs.setCause c nofun
  exact { hset with }

theorem joinAllNotices_linkSound {s : State} (hs : LinkSound s) : LinkSound (joinAllNotices s) := by
  have hmembers : ∀ c, inNotices (joinAllNotices s) c = true → noticeDue s c = true := by
    intro c hin
    rw [inNotices_joinAllNotices] at hin
    exact ((Bool.or_eq_true _ _).mp hin).elim (hs.members c) id
  rw [joinAllNotices_frame] at hmembers ⊢
  exact { hs with members := hmembers }

/-! ## The idle deadline -/

theorem idleDeadlineNow_none {s : State} : idleDeadlineNow s = none ↔ s.trk.sessionIdleS = 0 := by
  unfold idleDeadlineNow
  split <;> simp [*]

/-- R159: the idle deadline of an OPEN session is set for the present SESSION_IDLE_S. -/
theorem LinkSound.setIdle {s : State} (hs : LinkSound s) (v : Nat) :
    LinkSound (restartIdle { s with trk.sessionIdleS := v }) := by
  cases hx : s.trk.session with
  | closed =>
    rw [restartIdle_closed (s := { s with trk.sessionIdleS := v }) hx]
    refine { hs with idle := fun d hd => ?_ }
    rw [show s.trk.session = .opened d from hd] at hx
    cases hx
  | opened d =>
    rw [restartIdle_opened (s := { s with trk.sessionIdleS := v }) hx]
    refine { hs with members := fun c hin => ?_, idle := fun e he => ?_ }
    · obtain ⟨-, hdue⟩ := hs.member hin
      exact noticeDue_iff.mpr ⟨rfl, hdue⟩
    · obtain rfl := Session.opened.inj he
      exact idleDeadlineNow_none

/-! ## The cache -/

/-- R152, R153: a recorded response is the only one of its tag, among at most four. -/
theorem recordResponse_linkSound (r : Response) {s : State} (hs : LinkSound s) : LinkSound (recordResponse r s) := by
  unfold recordResponse
  split
  · exact hs
  · rename_i htag
    have hkept : ∃ kept : List CacheRecord, recordIn s.trk.cache r =
          kept ++ [{ tag := r.tag, code := r.code, response := r }] ∧
        kept.Sublist (s.trk.cache.filter (fun k => k.tag != r.tag)) ∧ kept.length ≤ 3 := by
      have hfour : (s.trk.cache.filter (fun k => k.tag != r.tag)).length ≤ 4 :=
        (List.length_filter_le _ _).trans hs.cacheFour
      refine ⟨_, rfl, ?_⟩
      split
      · exact ⟨List.drop_sublist _ _, by rw [List.length_drop]; omega⟩
      · exact ⟨List.Sublist.refl _, by omega⟩
    obtain ⟨kept, heq, hsub, hlength⟩ := hkept
    have hcache : kept.Sublist s.trk.cache := hsub.trans List.filter_sublist
    rw [heq]
    refine { hs with cacheFour := ?_, cacheTags := ?_, cacheNonzero := fun k hk => ?_ }
    · rw [List.length_append]
      exact Nat.succ_le_succ hlength
    · rw [List.map_append]
      refine (hs.cacheTags.sublist (hcache.map _)).append (List.nodup_singleton _) ?_
      rw [List.map_singleton, List.disjoint_singleton]
      intro hin
      obtain ⟨k, hk, hktag⟩ := List.mem_map.mp hin
      have hother := List.of_mem_filter (hsub.subset hk)
      rw [hktag] at hother
      simp at hother
    · rcases List.mem_append.mp hk with hk | hk
      · exact hs.cacheNonzero k (hcache.subset hk)
      · rw [List.mem_singleton.mp hk]
        exact htag

/-! ## Sessions and restarts -/

theorem closeSession_linkSound {s : State} (hs : LinkSound s) : LinkSound (closeSession s) := by
  by_cases hx : s.trk.session = .closed
  · rwa [closeSession_closed hx]
  · have hended : LinkSound (sessionEnded s) :=
      { hs with
        waitThree := Nat.zero_le 3
        members := fun c hin => by rw [inNotices_empty rfl] at hin; cases hin
        idle := nofun }
    rw [closeSession_opened hx]
    unfold abortLine
    split
    · exact hended
    · split
      · exact { hended with }
      · exact hended

theorem openSession_linkSound (mode : OpenMode) {s : State} (hs : LinkSound s) : LinkSound (openSession mode s) := by
  have hclosed : LinkSound (closeSession s) := closeSession_linkSound hs
  rw [openSession, openClosedSession_eq]
  obtain ⟨places, dst, hopen⟩ := streamOpen_frame mode (closeSession s)
  rw [hopen]
  refine { hclosed with
    cacheFour := Nat.zero_le 4, cacheTags := List.nodup_nil, cacheNonzero := nofun, waitThree := Nat.zero_le 3
    members := fun c hin => ?_, idle := fun d hd => ?_ }
  · have hjoined : (openingNotices (closeSession s))[c.index] = true := hin
    rw [openingNotices_index] at hjoined
    refine noticeDue_iff.mpr ⟨rfl, ?_⟩
    rcases (Bool.or_eq_true _ _).mp hjoined with hin | hdue
    · exact (hclosed.member hin).2
    · obtain ⟨hpending, hlevel⟩ := (Bool.and_eq_true _ _).mp hdue
      exact ⟨hpending, of_decide_eq_true hlevel⟩
  · obtain rfl := Session.opened.inj hd
    exact idleDeadlineNow_none

theorem warmRestart_linkSound {s : State} (hs : LinkSound s) : LinkSound (warmRestart s) := by
  have hcleared : LinkSound (alarmCleared (restartedBlocks s)) :=
    { hs with
      queueFour := Nat.zero_le 4, cacheFour := Nat.zero_le 4, cacheTags := List.nodup_nil, cacheNonzero := nofun
      waitThree := Nat.zero_le 3
      members := fun c hin => by rw [inNotices_empty rfl] at hin; cases hin }
  have hraised : LinkSound (raise .restarted (alarmCleared (restartedBlocks s))) := raise_linkSound _ hcleared
  exact { hraised with }

/-! ## The engine -/

theorem concluding_closeSession (s : State) : concluding (closeSession s) = concluding s := by
  by_cases hx : s.trk.session = .closed
  · rw [closeSession_closed hx]
  · rw [closeSession_opened hx]
    unfold abortLine
    split
    · rfl
    · rename_i f hl
      split
      · have hline : s.trk.line = some f := hl
        unfold concluding
        rw [hline]
        rfl
      · rfl

theorem closeSession_mre (s : State) : (closeSession s).mre = s.mre := by
  obtain ⟨_, _, _, _, _, _, _, _, _, _, h⟩ := closeSession_frame s
  rw [h]

/-- R166: an engine whose response has been sent or finished is READY again. -/
theorem engineReleased_trunkInv {s : State} (hs : LinkSound s) (hwaits : s.mre ≠ .ready) (hnone : concluding s = 0) :
    TrunkInv (engineReleased s) := by
  cases hm : s.mre with
  | ready => exact absurd hm hwaits
  | closing =>
    rw [engineReleased_closing hm]
    exact trunkInv_iff.mpr ⟨{ hs with }, hnone⟩
  | restarting =>
    have hrestarted := warmRestart_linkSound hs
    have hline : (warmRestart s).trk.line = s.trk.line ∧ (warmRestart s).trk.responses = [] := by
      rw [warmRestart_eq]
      show (raise _ _).trk.line = _ ∧ (raise _ _).trk.responses = _
      rw [raise_frame]
      exact ⟨rfl, rfl⟩
    rw [engineReleased_restarting hm]
    refine trunkInv_iff.mpr ⟨{ hrestarted with }, ?_⟩
    show concluding (warmRestart s) = 0
    rw [concluding, hline.1, hline.2]
    exact (Nat.zero_add _).trans (Nat.add_eq_zero_iff.mp hnone).2

/-- R158: the frame on the line has been sent. -/
theorem frameEnds_trunkInv {s : State} (hs : TrunkInv s) : TrunkInv (frameEnds s) := by
  obtain ⟨hlink, hengine⟩ := trunkInv_iff.mp hs
  unfold frameEnds
  cases hl : s.trk.line with
  | none => exact hs
  | some f =>
    have hended : LinkSound { s with trk.line := none } := { hlink with }
    have hplain : f.concludes = false → TrunkInv { s with trk.line := none } := by
      intro hf
      refine trunkInv_iff.mpr ⟨hended, ?_⟩
      rw [EngineAgrees, concluding, hl, Option.any_some, hf] at hengine
      exact hengine
    dsimp only
    split
    · rename_i q hq
      cases hc : q.concludes with
      | false =>
        rw [if_neg Bool.false_ne_true]
        exact hplain (by simp only [LineFrame.concludes, hq, hc])
      | true =>
        rw [if_pos rfl]
        have hf : f.concludes = true := by simp only [LineFrame.concludes, hq, hc]
        rw [EngineAgrees, concluding, hl, Option.any_some, hf, if_pos rfl] at hengine
        have hwaits : s.mre ≠ .ready := fun hm => by rw [if_pos hm] at hengine; omega
        rw [if_neg hwaits] at hengine
        refine engineReleased_trunkInv (closeSession_linkSound hended) ?_ ?_
        · rw [closeSession_mre]; exact hwaits
        · rw [concluding_closeSession]; exact Nat.succ.inj hengine
    · exact hplain (by simp only [LineFrame.concludes, *])
    · exact hplain (by simp only [LineFrame.concludes, *])

/-- R160: the part after an idle timeout, before the engine is released. -/
def timedOut (s : State) : State :=
  { closeSession s with
    trk.responses := []
    trk.counters.idleCloses := bump (closeSession s).trk.counters.idleCloses }

theorem idleTimeout_eq (s : State) : idleTimeout s =
    if s.trk.responses.any QueuedResponse.concludes then engineReleased (timedOut s) else timedOut s := rfl

/-- R160: the timeout drops the concluding responses of the queue. -/
theorem concluding_timedOut (s : State) :
    concluding (timedOut s) + s.trk.responses.countP QueuedResponse.concludes = concluding s := by
  have hresponses : (closeSession s).trk.responses = s.trk.responses := by
    obtain ⟨_, _, _, _, _, _, _, _, _, _, h⟩ := closeSession_frame s
    rw [h]
  rw [← concluding_closeSession s, timedOut, concluding, concluding, hresponses, List.countP_nil, Nat.zero_add,
    Nat.add_comm]

/-- R160: the idle timeout. -/
theorem idleTimeout_trunkInv {s : State} (hs : TrunkInv s) : TrunkInv (idleTimeout s) := by
  obtain ⟨hlink, hengine⟩ := trunkInv_iff.mp hs
  have hout : LinkSound (timedOut s) := { closeSession_linkSound hlink with queueFour := Nat.zero_le 4 }
  have hmre : (timedOut s).mre = s.mre := closeSession_mre s
  have hleft := concluding_timedOut s
  unfold EngineAgrees at hengine
  rw [idleTimeout_eq]
  cases hfinished : s.trk.responses.any QueuedResponse.concludes with
  | true =>
    have hsome : 0 < s.trk.responses.countP QueuedResponse.concludes :=
      List.countP_pos_iff.mpr (List.any_eq_true.mp hfinished)
    have hwaits : s.mre ≠ .ready := fun hm => by rw [if_pos hm] at hengine; omega
    rw [if_neg hwaits] at hengine
    rw [if_pos rfl]
    exact engineReleased_trunkInv hout (hmre ▸ hwaits) (by omega)
  | false =>
    have hnone : s.trk.responses.countP QueuedResponse.concludes = 0 :=
      List.countP_eq_zero.mpr (by simpa using hfinished)
    rw [if_neg Bool.false_ne_true]
    refine trunkInv_iff.mpr ⟨hout, ?_⟩
    rw [EngineAgrees, hmre, ← hengine, ← hleft, hnone, Nat.add_zero]

/-! ## The sender -/

/-- R162: the wait count after a response or a notice that the sender may take. -/
theorem waitAfter_le_three {eligibleNow : Bool} {count : Nat} (h : ¬ (eligibleNow && decide (3 ≤ count)) = true) :
    waitAfter eligibleNow count ≤ 3 := by
  unfold waitAfter
  split
  · rename_i he
    rw [he, Bool.true_and, decide_eq_true_iff] at h
    exact Nat.not_le.mp h
  · exact Nat.zero_le 3

theorem takeFrame_trunkInv {s : State} (hs : TrunkInv s) (hidle : s.trk.line = none) : TrunkInv (takeFrame s) := by
  obtain ⟨hlink, hengine⟩ := trunkInv_iff.mp hs
  rw [EngineAgrees, concluding, hidle] at hengine
  have hstream : TrunkInv (sendStream s) := by
    unfold sendStream
    split
    · exact hs
    · rename_i q it t h
      obtain ⟨_, _, _, _, _, rfl⟩ := streamSend_frame h
      exact trunkInv_iff.mpr ⟨{ hlink with waitThree := Nat.zero_le 3 }, hengine⟩
  unfold takeFrame
  split
  · exact hstream
  · rename_i hwait
    have hwait := waitAfter_le_three hwait
    split
    · rename_i q rest hq
      refine trunkInv_iff.mpr ⟨{ hlink with waitThree := hwait, queueFour := ?_ }, ?_⟩
      · have hfour := hlink.queueFour
        rw [hq, List.length_cons] at hfour
        exact Nat.le_of_succ_le hfour
      · rw [hq, List.countP_cons] at hengine
        exact hengine
    · split
      · rename_i c _
        have hnotice : LinkSound (setNotice c false (setCause c (causeState s c) s)) := hlink.setCause c nofun
        have hsame : setCause c (causeState s c) s = s := by
          unfold setCause causeState
          rw [show s.alm.causes.set c.index s.alm.causes[c.index] = s.alm.causes from Vector.set_getElem_self ..]
        rw [hsame] at hnotice
        exact trunkInv_iff.mpr ⟨{ hnotice with waitThree := hwait }, hengine⟩
      · exact kept_ite hstream hs

/-! ## Every step -/

/-- R38, R39: an enable changes the receivers and the enables alone. -/
theorem setEnable_frame (ch : Channel) (on : Bool) (s : State) : ∃ fra frb a b, setEnable ch on s =
    { s with fra := fra, frb := frb, profile.enableA := a, profile.enableB := b } := by
  have hset : ∀ t : State, ∃ fra frb, (if on then enableReceiver ch t else disableReceiver ch t) =
      { t with fra := fra, frb := frb } := by
    intro t
    rw [enableReceiver_eq, disableReceiver_eq]
    split <;> cases ch <;> exact ⟨_, _, rfl⟩
  cases ch with
  | A => obtain ⟨_, _, h⟩ := hset { s with profile.enableA := on }; exact ⟨_, _, _, _, h⟩
  | B => obtain ⟨_, _, h⟩ := hset { s with profile.enableB := on }; exact ⟨_, _, _, _, h⟩

theorem setParam_trunkInv (p : Param) (v : Nat) {s : State} (hs : TrunkInv s) : TrunkInv (setParam p v s) := by
  obtain ⟨hlink, hengine⟩ := trunkInv_iff.mp hs
  have henable : ∀ ch on, TrunkInv (setEnable ch on s) := by
    intro ch on
    obtain ⟨_, _, _, _, h⟩ := setEnable_frame ch on s
    rw [h]
    exact { hs with }
  cases p
  case rxEnableA => exact henable .A _
  case rxEnableB => exact henable .B _
  case sessionIdleS =>
    refine trunkInv_iff.mpr ⟨hlink.setIdle v, ?_⟩
    obtain ⟨_, h⟩ := restartIdle_frame { s with trk.sessionIdleS := v }
    show EngineAgrees (restartIdle _)
    rw [h]
    exact hengine
  case level c =>
    refine trunkInv_iff.mpr ⟨setLevel_linkSound c v hlink, ?_⟩
    show EngineAgrees (setLevel c v s)
    rw [setLevel_eq]
    exact hengine
  all_goals exact { hs with }

theorem afterReset_trunkInv (a b : Bool) (queue : List Instr) : TrunkInv (State.afterReset a b queue) :=
  { heldTwo := Nat.zero_le 2, queueFour := Nat.zero_le 4, cacheFour := Nat.zero_le 4, cacheTags := List.nodup_nil
    cacheNonzero := nofun, waitThree := Nat.zero_le 3, content := nofun
    members := fun c hin => by rw [inNotices_empty rfl] at hin; cases hin
    idle := nofun, engine := rfl }

/-- The invariant of the trunk link survives every change. -/
theorem trunkInv_survives : Survives TrunkInv where
  aside hs h := trunkInv_governed.mp (h ▸ trunkInv_governed.mpr hs)
  raise c hs := by
    obtain ⟨hlink, hengine⟩ := trunkInv_iff.mp hs
    refine trunkInv_iff.mpr ⟨raise_linkSound c hlink, ?_⟩
    rw [raise_frame]
    exact hengine
  restartIdle {s} hs := by
    obtain ⟨hlink, hengine⟩ := trunkInv_iff.mp hs
    refine trunkInv_iff.mpr ⟨hlink.setIdle s.trk.sessionIdleS, ?_⟩
    obtain ⟨_, h⟩ := restartIdle_frame s
    rw [h]
    exact hengine
  assembles hs h := { hs with
    content := fun bs esc hx => (h bs esc hx).elim id fun ⟨before, hold⟩ => hs.content bs before hold }
  holds q hs h := { hs with heldTwo := by rw [List.length_append]; exact h }
  takesOut hs h := { hs with
    heldTwo := by have htwo := hs.heldTwo; rw [h] at htwo; exact Nat.le_of_succ_le htwo }
  records r hs := by
    obtain ⟨hlink, hengine⟩ := trunkInv_iff.mp hs
    refine trunkInv_iff.mpr ⟨recordResponse_linkSound r hlink, ?_⟩
    unfold recordResponse
    split <;> exact hengine
  responds r hs h := { hs with
    queueFour := by rw [pushResponse_trk_responses, List.length_append]; exact h
    engine := by
      have hengine := hs.engine
      unfold concluding at hengine ⊢
      rw [pushResponse_trk_responses, List.countP_append]
      exact hengine }
  concludes {s m} r hs hready hm h := { hs with
    queueFour := by rw [pushResponse_trk_responses, List.length_append]; exact h
    engine := by
      have hengine := hs.engine
      unfold concluding at hengine ⊢
      rw [if_pos hready] at hengine
      rw [pushResponse_trk_responses, List.countP_append, pushResponse_mre, if_neg hm]
      show _ + 1 + _ = 1
      rw [Nat.add_right_comm]
      exact congrArg Nat.succ hengine }
  opens {s} mode hs := by
    obtain ⟨hlink, hengine⟩ := trunkInv_iff.mp hs
    refine trunkInv_iff.mpr ⟨openSession_linkSound mode hlink, ?_⟩
    rw [openSession, openClosedSession_eq]
    obtain ⟨_, _, h⟩ := streamOpen_frame mode (closeSession s)
    rw [h]
    show concluding (closeSession s) = if (closeSession s).mre = .ready then 0 else 1
    rw [concluding_closeSession, closeSession_mre]
    exact hengine
  sets p v hs _ := setParam_trunkInv p v hs
  clears c hs := by
    obtain ⟨hlink, hengine⟩ := trunkInv_iff.mp hs
    exact trunkInv_iff.mpr ⟨clearCause_linkSound c hlink, hengine⟩
  sends := takeFrame_trunkInv
  frameEnds := frameEnds_trunkInv
  idleTimeout := idleTimeout_trunkInv
  reminds {s} hs := by
    obtain ⟨hlink, hengine⟩ := trunkInv_iff.mp hs
    refine trunkInv_iff.mpr ⟨joinAllNotices_linkSound hlink, ?_⟩
    rw [joinAllNotices_frame]
    exact hengine
  resets := afterReset_trunkInv

/-- Settles O58: the invariant survives every change that a command or a tick makes, and a full reset ends with it. -/
theorem trunkStaysConsistent : Obligations.TrunkStaysConsistent :=
  fun _ _ => trunkInv_survives.step

end Sys2Proof.Machine

/-! ATTN (R141) and the ranges of the parameters (R176, R207): what the trunk link may do to them is SESSION_IDLE_S,
and what it carries out. -/

namespace Sys2Proof.Machine

/-! ## Changes of the trunk link that govern neither ATTN nor a parameter -/

/-- What governs ATTN and the parameters; every other field is set to its reset value. -/
def State.ruled (s : State) : State :=
  { s.governed with trk := { resetTrunk with sessionIdleS := s.trk.sessionIdleS }, mre := .ready }

theorem ruled_of_governed {s t : State} (h : t.governed = s.governed) : t.ruled = s.ruled := by
  show { t.governed with trk := { resetTrunk with sessionIdleS := t.governed.trk.sessionIdleS }, mre := .ready } = _
  rw [h]
  rfl

theorem ruled_closeSession (s : State) : (closeSession s).ruled = s.ruled := by
  obtain ⟨_, _, _, _, _, _, _, _, _, _, h⟩ := closeSession_frame s
  rw [h]; rfl

theorem ruled_openSession (mode : OpenMode) (s : State) : (openSession mode s).ruled = s.ruled := by
  rw [openSession, openClosedSession_eq, ← ruled_closeSession s]
  cases mode with
  | resume => rw [streamOpen_resume]; rfl
  | fresh => rw [streamOpen_fresh]; rfl

theorem ruled_takeFrame (s : State) : (takeFrame s).ruled = s.ruled := by
  obtain ⟨_, _, _, _, _, _, _, _, _, _, _, _, h⟩ := takeFrame_frame s
  rw [h]; rfl

/-- A property of what governs ATTN and the parameters survives every change, when it survives the few that
concern these. -/
theorem Survives.of_ruled {P : State → Prop} (hruled : ∀ {s t}, P s → t.ruled = s.ruled → P t)
    (hraise : ∀ {s} c, P s → P (Machine.raise c s)) (hclears : ∀ {s} c, P s → P (clearCause c s))
    (hsets : ∀ {s} p v, P s → p.inRange v = true → P (setParam p v s))
    (hrestarts : ∀ {s}, P s → P (warmRestart s)) (hresets : ∀ a b queue, P (State.afterReset a b queue)) :
    Survives P := by
  have hcloses : ∀ {s}, P s → P (closeSession s) := fun hs => hruled hs (ruled_closeSession _)
  have hreleases : ∀ {s}, P s → P (engineReleased s) := by
    intro s hs
    unfold engineReleased
    split
    · exact hs
    · exact hruled hs rfl
    · exact hruled (hrestarts hs) rfl
  refine
    { aside := fun hs h => hruled hs (ruled_of_governed h), raise := hraise, clears := hclears, sets := hsets
      resets := hresets
      restartIdle := fun {s} hs => ?_
      assembles := fun hs _ => hruled hs rfl
      holds := fun _ hs _ => hruled hs rfl
      takesOut := fun hs _ => hruled hs rfl
      records := fun r {s} hs => kept_ite hs (hruled hs rfl)
      responds := fun _ hs _ => hruled hs rfl
      concludes := fun _ hs _ _ _ => hruled hs rfl
      opens := fun mode hs => hruled hs (ruled_openSession mode _)
      sends := fun hs _ => hruled hs (ruled_takeFrame _)
      frameEnds := fun {s} hs => ?_
      idleTimeout := fun {s} hs => ?_
      reminds := fun {s} hs => ?_ }
  · obtain ⟨_, h⟩ := restartIdle_frame s
    rw [h]; exact hruled hs rfl
  · unfold Machine.frameEnds
    have hended : P { s with trk.line := none } := hruled hs rfl
    split
    · exact hs
    · dsimp only
      split
      · exact kept_ite (hreleases (hcloses hended)) hended
      all_goals exact hended
  · have hout : P (timedOut s) := hruled (hcloses hs) rfl
    exact kept_ite (hreleases hout) hout
  · rw [joinAllNotices_frame]; exact hruled hs rfl

/-! ## ATTN -/

/-- R141: ATTN is as it is to be, in a part that is not held in full reset. -/
def AttnDecided (s : State) : Prop := s.inReset = false ∧ s.alm.attn = attnDue s

theorem attnInv_of_running {s : State} (h : s.inReset = false) : AttnInv s ↔ AttnDecided s := by
  rw [AttnInv, AttnDecided, h, Bool.not_false, Bool.true_and]
  exact (and_iff_right rfl).symm

/-- R135: to count a pending cause once more does not bear on ATTN. -/
theorem attnDue_setCause_pending {c : Cause} {s : State} {o o' : Occurrence}
    (h : (causeState s c).occurrence = some o) :
    attnDue (setCause c { causeState s c with occurrence := some o' } s) = attnDue s := by
  rw [Bool.eq_iff_iff, attnDue_iff, attnDue_iff]
  refine exists_congr fun c' => ?_
  rw [pendingCause, pendingCause, causeState_setCause]
  by_cases hc : c' = c
  · rw [if_pos hc, hc, h]; rfl
  · rw [if_neg hc]; rfl

theorem raise_attnDecided (c : Cause) {s : State} (hs : AttnDecided s) : AttnDecided (raise c s) := by
  obtain ⟨hrun, hattn⟩ := hs
  cases h : (causeState s c).occurrence with
  | some o =>
    rw [raise_of_pending h]
    exact ⟨hrun, hattn.trans (attnDue_setCause_pending h).symm⟩
  | none =>
    rw [raise_of_clear h, joinNotice_frame]
    exact ⟨hrun, rfl⟩

theorem setParam_attnDecided (p : Param) (v : Nat) {s : State} (hs : AttnDecided s) :
    AttnDecided (setParam p v s) := by
  have henable : ∀ ch on, AttnDecided (setEnable ch on s) := by
    intro ch on
    obtain ⟨_, _, _, _, h⟩ := setEnable_frame ch on s
    rw [h]; exact hs
  cases p
  case rxEnableA => exact henable .A _
  case rxEnableB => exact henable .B _
  case sessionIdleS =>
    obtain ⟨_, h⟩ := restartIdle_frame { s with trk.sessionIdleS := v }
    show AttnDecided (restartIdle _)
    rw [h]; exact hs
  case level c =>
    show AttnDecided (setLevel c v s)
    rw [setLevel_eq]; exact ⟨hs.1, rfl⟩
  case attentionLevel => exact ⟨hs.1, rfl⟩
  all_goals exact hs

theorem attnDecided_survives : Survives AttnDecided := by
  refine Survives.of_ruled (fun {s t} hs h => ?_) (fun c hs => raise_attnDecided c hs) (fun c hs => ⟨hs.1, rfl⟩)
    (fun p v hs _ => setParam_attnDecided p v hs) (fun {s} hs => ⟨?_, rfl⟩) fun a b queue => ⟨rfl, rfl⟩
  · have hs' : AttnDecided s.ruled := hs
    rw [← h] at hs'
    exact hs'
  · obtain ⟨_, _, _, _, _, _, _, _, _, _, _, _, _, h⟩ := warmRestart_frame s
    rw [h]; exact hs.1

/-- R141, R196: a command to a part that is held leaves ATTN deasserted, or ends the reset. -/
theorem exec_held_attn {c : Instr} {s t : State} (hs : s.inReset = true) (hattn : s.alm.attn = false)
    (h : exec c s = .next t) : AttnInv t := by
  have hheld : ∀ {u : State}, u.inReset = true → u.alm.attn = false → AttnInv u := fun {u} hu hua => by
    rw [AttnInv, hu, hua]; rfl
  have hreset : ∀ a b, AttnInv (State.afterReset a b s.pending) := fun a b =>
    (attnInv_of_running rfl).mpr (attnDecided_survives.resets a b _)
  by_cases hfull : c = .fullReset
  · subst c; obtain rfl := Host.Outcome.next.inj h; exact hheld rfl rfl
  by_cases hend : ∃ a b, c = .fullResetEnd a b
  · obtain ⟨a, b, rfl⟩ := hend
    obtain rfl := Host.Outcome.next.inj h
    exact kept_ite (hreset a b) (kept_ite (hheld hs hattn) (hheld hs hattn))
  by_cases hclock : ∃ ch r, c = .cellDecoded ch (.refclk r)
  · obtain ⟨ch, r, rfl⟩ := hclock
    obtain rfl := Host.Outcome.next.inj h
    cases r with
    | false => exact hheld hs hattn
    | true =>
      rw [if_pos rfl, startRefclk_held hs]
      split
      · exact hreset _ _
      · exact hheld hs hattn
  · push Not at hend hclock
    rw [exec_held hs hfull hend hclock] at h
    obtain rfl := Host.Outcome.next.inj h
    exact hheld hs hattn

theorem idleTick_alm (s : State) : (idleTick s).alm = s.alm := by
  unfold idleTick transmitTick
  split
  · split
    · split <;> rfl
    all_goals rfl
  · rfl

/-- R141: every step keeps ATTN decided. -/
theorem step_attnInv {s t : State} (hs : AttnInv s) (h : step s = .next t) : AttnInv t := by
  unfold step at h
  split at h
  · rename_i c rest _
    cases hr : s.inReset with
    | false =>
      have hdecided : AttnDecided { s with pending := rest } := (attnInv_of_running hr).mp hs
      by_cases hfull : c = .fullReset
      · subst c; obtain rfl := Host.Outcome.next.inj h; rfl
      · have ht := attnDecided_survives.exec hfull hdecided h
        exact (attnInv_of_running ht.1).mpr ht
    | true =>
      refine exec_held_attn (s := { s with pending := rest }) hr ?_ h
      rw [AttnInv, hr] at hs
      exact hs
  · obtain rfl := Host.Outcome.next.inj h
    have hdue : attnDue (idleTick s) = attnDue s := by
      unfold attnDue pendingCause causeState
      rw [idleTick_alm]
    rw [AttnInv, hdue, idleTick_alm, idleTick_inReset]
    exact hs

/-! ## The ranges of the parameters -/

/-- R176, R207: the parameters that can leave their ranges lie within them. -/
structure ParamsSound (s : State) : Prop where
  unknownWindow : 100 ≤ s.stab.unknownWindowMs ∧ s.stab.unknownWindowMs ≤ 60000
  bitTime : 100 ≤ s.profile.bitTimeUs ∧ s.profile.bitTimeUs ≤ 2000
  preambleMin : 8 ≤ s.profile.preambleMin ∧ s.profile.preambleMin ≤ 32
  maxLength : 5 ≤ s.profile.maxLength ∧ s.profile.maxLength ≤ 38
  tick : 20 ≤ s.ftx.params.tickUs ∧ s.ftx.params.tickUs ≤ 1000
  halfBit : 1 ≤ s.ftx.params.halfBitTicks ∧ s.ftx.params.halfBitTicks ≤ 16
  preambleBits : 8 ≤ s.ftx.params.preambleBits ∧ s.ftx.params.preambleBits ≤ 64
  ackTimeout : 20 ≤ s.dst.ackTimeoutMs ∧ s.dst.ackTimeoutMs ≤ 5000
  stallLimit : 1 ≤ s.dst.stallLimit ∧ s.dst.stallLimit ≤ 15
  sessionIdle : s.trk.sessionIdleS ≤ 120
  renotify : 1 ≤ s.alm.renotifyS ∧ s.alm.renotifyS ≤ 60
  attention : 1 ≤ s.alm.attentionLevel ∧ s.alm.attentionLevel ≤ 3
  burstLimit : 1 ≤ s.alm.errorBurstLimit ∧ s.alm.errorBurstLimit ≤ 255
  levels : ∀ c, (causeState s c).level ≤ 3

theorem word_inRange (w : Word16) : w.toNat ≤ 0xFFFF := Nat.le_of_lt_succ w.isLt

theorem flag_inRange (b : Bool) : flagBit b 1 ≤ 1 := by cases b <;> decide

/-- Codes, words and enables are in range by their types. -/
theorem paramInv_iff {s : State} : ParamInv s ↔ ParamsSound s := by
  refine ⟨fun h => ?_, fun h p => ?_⟩
  · exact
      { unknownWindow := of_decide_eq_true (h .unknownWindowMs), bitTime := of_decide_eq_true (h .rxBitTimeUs)
        preambleMin := of_decide_eq_true (h .rxPreambleMin), maxLength := of_decide_eq_true (h .rxMaxLength)
        tick := of_decide_eq_true (h .txTickUs), halfBit := of_decide_eq_true (h .txHalfBitTicks)
        preambleBits := of_decide_eq_true (h .txPreambleBits), ackTimeout := of_decide_eq_true (h .ackTimeoutMs)
        stallLimit := of_decide_eq_true (h .stallLimit), sessionIdle := of_decide_eq_true (h .sessionIdleS)
        renotify := of_decide_eq_true (h .renotifyS), attention := of_decide_eq_true (h .attentionLevel)
        burstLimit := of_decide_eq_true (h .errorBurstLimit), levels := fun c => of_decide_eq_true (h (.level c)) }
  · cases p
    case unknownPolicy => show decide (s.stab.policy.num ≤ 2) = true; cases s.stab.policy <;> rfl
    case rxCode => show decide (s.profile.code.num ≤ 2) = true; cases s.profile.code <;> rfl
    case txCode =>
      show decide (s.ftx.params.code.num = 0 ∨ s.ftx.params.code.num = 2) = true
      cases s.ftx.params.code <;> rfl
    case rxSync | rxCheckPoly | rxCheckInit | txSync => exact decide_eq_true (word_inRange _)
    case rxEnableA | rxEnableB => exact decide_eq_true (flag_inRange _)
    case unknownWindowMs => exact decide_eq_true h.unknownWindow
    case rxBitTimeUs => exact decide_eq_true h.bitTime
    case rxPreambleMin => exact decide_eq_true h.preambleMin
    case rxMaxLength => exact decide_eq_true h.maxLength
    case txTickUs => exact decide_eq_true h.tick
    case txHalfBitTicks => exact decide_eq_true h.halfBit
    case txPreambleBits => exact decide_eq_true h.preambleBits
    case ackTimeoutMs => exact decide_eq_true h.ackTimeout
    case stallLimit => exact decide_eq_true h.stallLimit
    case sessionIdleS => exact decide_eq_true h.sessionIdle
    case renotifyS => exact decide_eq_true h.renotify
    case attentionLevel => exact decide_eq_true h.attention
    case errorBurstLimit => exact decide_eq_true h.burstLimit
    case level c => exact decide_eq_true (h.levels c)

theorem paramsSound_ruled {s : State} : ParamsSound s.ruled ↔ ParamsSound s :=
  ⟨fun h => { h with }, fun h => { h with }⟩

/-- R135: a raise keeps every level. -/
theorem level_raise (c c' : Cause) (s : State) : (causeState (raise c s) c').level = (causeState s c').level := by
  have hset : ∀ o, (causeState (setCause c { causeState s c with occurrence := o } s) c').level =
      (causeState s c').level := by
    intro o
    rw [causeState_setCause]
    by_cases hc : c' = c
    · rw [if_pos hc, hc]
    · rw [if_neg hc]
  cases h : (causeState s c).occurrence with
  | some o => rw [raise_of_pending h]; exact hset _
  | none => rw [raise_of_clear h, joinNotice_frame]; exact hset _

theorem raise_paramsSound (c : Cause) {s : State} (hs : ParamsSound s) : ParamsSound (raise c s) := by
  have hlevels : ∀ c', (causeState (raise c s) c').level ≤ 3 := fun c' => by
    rw [level_raise]; exact hs.levels c'
  rw [raise_frame] at hlevels ⊢
  exact { hs with levels := hlevels }

/-- R139, R140: the state of a cause changes, with a level in its range. -/
theorem ParamsSound.setCause {s : State} (hs : ParamsSound s) (c : Cause) {k : CauseState} (hk : k.level ≤ 3) :
    ParamsSound (setCause c k s) :=
  { hs with
    levels := fun c' => by
      rw [causeState_setCause]
      split
      · exact hk
      · exact hs.levels c' }

theorem warmRestart_paramsSound {s : State} (hs : ParamsSound s) : ParamsSound (warmRestart s) := by
  have hcleared : ParamsSound (alarmCleared (restartedBlocks s)) := by
    have hparams : (alarmCleared (restartedBlocks s)).ftx.params = s.ftx.params :=
      (restartedTransmitter_kept s.ftx).1
    refine { hs with tick := ?_, halfBit := ?_, preambleBits := ?_, levels := fun c => ?_ }
    · rw [hparams]; exact hs.tick
    · rw [hparams]; exact hs.halfBit
    · rw [hparams]; exact hs.preambleBits
    · rw [causeState_alarmCleared]; exact hs.levels c
  exact { raise_paramsSound .restarted hcleared with }

/-- R175: a parameter is set to a value in its range. -/
theorem setParam_paramsSound (p : Param) (v : Nat) {s : State} (hs : ParamsSound s) (hv : p.inRange v = true) :
    ParamsSound (setParam p v s) := by
  have henable : ∀ ch on, ParamsSound (setEnable ch on s) := by
    intro ch on
    obtain ⟨_, _, _, _, h⟩ := setEnable_frame ch on s
    rw [h]; exact { hs with }
  cases p
  case rxEnableA => exact henable .A _
  case rxEnableB => exact henable .B _
  case sessionIdleS =>
    obtain ⟨_, h⟩ := restartIdle_frame { s with trk.sessionIdleS := v }
    show ParamsSound (restartIdle _)
    rw [h]; exact { hs with sessionIdle := of_decide_eq_true hv }
  case level c =>
    show ParamsSound (setLevel c v s)
    rw [setLevel_eq]
    exact { hs.setCause c (k := { causeState s c with level := v }) (of_decide_eq_true hv) with }
  case unknownWindowMs => exact { hs with unknownWindow := of_decide_eq_true hv }
  case rxBitTimeUs => exact { hs with bitTime := of_decide_eq_true hv }
  case rxPreambleMin => exact { hs with preambleMin := of_decide_eq_true hv }
  case rxMaxLength => exact { hs with maxLength := of_decide_eq_true hv }
  case txTickUs => exact { hs with tick := of_decide_eq_true hv }
  case txHalfBitTicks => exact { hs with halfBit := of_decide_eq_true hv }
  case txPreambleBits => exact { hs with preambleBits := of_decide_eq_true hv }
  case ackTimeoutMs => exact { hs with ackTimeout := of_decide_eq_true hv }
  case stallLimit => exact { hs with stallLimit := of_decide_eq_true hv }
  case renotifyS => exact { hs with renotify := of_decide_eq_true hv }
  case attentionLevel => exact { hs with attention := of_decide_eq_true hv }
  case errorBurstLimit => exact { hs with burstLimit := of_decide_eq_true hv }
  all_goals exact { hs with }

theorem reset_paramsSound : ParamsSound State.reset := by
  constructor
  case levels => intro c; cases c <;> decide
  all_goals decide

theorem paramsSound_survives : Survives ParamsSound :=
  .of_ruled (fun hs h => paramsSound_ruled.mp (h ▸ paramsSound_ruled.mpr hs)) (fun c hs => raise_paramsSound c hs)
    (fun c hs => { hs.setCause c (k := { causeState _ c with occurrence := none }) (hs.levels c) with })
    (fun p v hs hv => setParam_paramsSound p v hs hv) warmRestart_paramsSound
    fun _ _ _ => paramsSound_ruled.mp (paramsSound_ruled.mpr reset_paramsSound : ParamsSound State.reset.ruled)

/-- R176: every step keeps the parameters in range, the beginning of a full reset included. -/
theorem step_paramsSound {s t : State} (hs : ParamsSound s) (h : step s = .next t) : ParamsSound t := by
  unfold step at h
  split at h
  · rename_i c rest _
    have hrest : ParamsSound { s with pending := rest } := { hs with }
    by_cases hfull : c = .fullReset
    · subst c; obtain rfl := Host.Outcome.next.inj h; exact { hs with }
    · exact paramsSound_survives.exec hfull hrest h
  · obtain rfl := Host.Outcome.next.inj h
    exact paramsSound_survives.idleTick hs

/-- Settles O56: ATTN as decided and the ranges of the parameters survive every change, and the hold in full reset
deasserts ATTN. -/
theorem attnAndParametersStay : Obligations.AttnAndParametersStay :=
  ⟨fun _ _ => step_attnInv, fun _ _ hs h => paramInv_iff.mpr (step_paramsSound (paramInv_iff.mp hs) h)⟩

end Sys2Proof.Machine

/-! Raising a cause, the reminder deadline and the burst count (R135, R136, R138, R141, R142). -/

namespace Sys2Proof.Machine

theorem exec_renotifyDeadline (s : State) : exec .renotifyDeadline s = event (fun s =>
    if reached s.now s.alm.renotifyDeadline then
      { joinAllNotices s with alm.renotifyDeadline := after s.alm.renotifyDeadline (s.alm.renotifyS * 1000) }
    else s) s := rfl

theorem exec_perSecondBoundary (s : State) : exec .perSecondBoundary s =
    event (fun s => if s.now.toNat % 1000 = 0 then { s with alm.burstCount := 0 } else s) s := rfl

/-- R141: ATTN once a cause has become pending and every level stands as before. -/
theorem attnDue_setCause_occurs (c : Cause) (o : Occurrence) (s : State) :
    attnDue (setCause c { causeState s c with occurrence := some o } s) = true ↔
      s.alm.attentionLevel ≤ (causeState s c).level ∨
        ∃ c', pendingCause s c' = true ∧ s.alm.attentionLevel ≤ (causeState s c').level := by
  rw [attnDue_iff]
  simp only [pendingCause, causeState_setCause, setCause_alm_attentionLevel]
  constructor
  · rintro ⟨c', hpending, hlevel⟩
    by_cases hc : c' = c
    · rw [if_pos hc] at hlevel
      exact .inl hlevel
    · rw [if_neg hc] at hpending hlevel
      exact .inr ⟨c', hpending, hlevel⟩
  · rintro (hlevel | ⟨c', hpending, hlevel⟩)
    · exact ⟨c, by simp, by simpa using hlevel⟩
    · refine ⟨c', ?_⟩
      by_cases hc : c' = c
      · subst hc
        simpa using hlevel
      · simpa [hc] using And.intro hpending hlevel

theorem Session.isOpen_iff {x : Session} : x.isOpen = true ↔ x ≠ .closed := by
  refine ⟨?_, Session.isOpen_of_ne_closed⟩
  rintro h rfl
  exact absurd h Bool.false_ne_true

/-- R136: a cause that has become pending is due for a notice while the session is OPEN, at level 1 or more. -/
theorem noticeDue_setCause_occurs (c : Cause) (o : Occurrence) (s : State) :
    noticeDue (setCause c { causeState s c with occurrence := some o } s) c = true ↔
      s.trk.session ≠ .closed ∧ 1 ≤ (causeState s c).level := by
  simp [noticeDue_iff, pendingCause, causeState_setCause, Session.isOpen_iff]

/-- R135, R136, R141: a raise of a cause that is not pending, field by field. -/
theorem raise_of_clear_fields {c : Cause} {s : State} (h : (causeState s c).occurrence = none) :
    let k : CauseState := { causeState s c with occurrence := some { count := 1, first := s.now } }
    raise c s = { s with
      alm.causes := s.alm.causes.set c.index k
      alm.attn := attnDue (setCause c k s)
      trk.notices := s.trk.notices.set c.index (inNotices s c || noticeDue (setCause c k s) c) } := by
  rw [raise_of_clear h, joinNotice_eq]
  rfl

theorem renotifyDeadline_reached {s : State} (h : Running s) (hreached : reached s.now s.alm.renotifyDeadline = true) :
    exec .renotifyDeadline s = .next (settle { s with
      trk.notices := (joinAllNotices s).trk.notices
      alm.renotifyDeadline := s.alm.renotifyDeadline + BitVec.ofNat 32 (s.alm.renotifyS * 1000) }) := by
  rw [exec_renotifyDeadline, event_running h, if_pos hreached, joinAllNotices_frame]
  rfl

theorem perSecondBoundary_atSecond {s : State} (h : Resting s) (hsecond : s.now.toNat % 1000 = 0) :
    exec .perSecondBoundary s = .next { s with alm.burstCount := 0 } := by
  rw [exec_perSecondBoundary, event_running h.1, if_pos hsecond,
    settle_of_settled (t := { s with alm.burstCount := 0 }) h.2 rfl rfl rfl]

/-- Settles O51: a raise by whether the cause is pending, the two timed events by whether their time has come. -/
theorem raisesAndReminders : Obligations.RaisesAndReminders := by
  refine fun s => ⟨fun c o ho => ?_, fun c hclear => ?_, fun hrun => ⟨fun hreached => ?_, fun hnot => ?_⟩,
    fun hrest => ⟨perSecondBoundary_atSecond hrest, fun hnot => ?_⟩⟩
  · exact raise_of_pending ho
  · have hdue := noticeDue_setCause_occurs c { count := 1, first := s.now } s
    refine ⟨_, _, raise_of_clear_fields hclear, attnDue_setCause_occurs c _ s, fun hjoins => ?_, fun hstays => ?_⟩
    · rw [hdue.mpr hjoins, Bool.or_true]
    · rw [Bool.eq_false_iff.mpr (mt hdue.mp hstays), Bool.or_false]
  · exact ⟨_, inNotices_joinAllNotices s, renotifyDeadline_reached hrun hreached⟩
  · rw [exec_renotifyDeadline, event_running hrun, if_neg (Bool.eq_false_iff.mp hnot)]
  · exact event_same hrest (if_neg hnot)

end Sys2Proof.Machine

/-! GET-CAUSES and CLEAR-CAUSE (R140, R184). -/

namespace Sys2Proof.Machine

theorem carryOut_getCauses (args : List Byte) (s : State) : carryOut 0x50 args s = reqGetCauses args s := rfl

theorem carryOut_clearCause (args : List Byte) (s : State) : carryOut 0x51 args s = reqClearCause args s := rfl

theorem causeOf_number (c : Cause) : causeOf (byteOf c.number) = some c := by
  cases c <;> decide

theorem causeOf_undefined {n : Byte} (h : n = 0 ∨ 8 < n.toNat) : causeOf n = none := by
  refine List.find?_eq_none.mpr fun c _ hc => ?_
  obtain rfl : byteOf c.number = n := beq_iff_eq.mp hc
  cases c <;> simp [byteOf, Cause.number, Cause.index] at h

theorem reqClearCause_cleared {n : Byte} {c : Cause} (s : State) (h : causeOf n = some c) :
    reqClearCause [n] s = done (clearResults (causeState s c)) (clearCause c s) := by
  simp only [reqClearCause, h]

theorem reqClearCause_undefined {n : Byte} (s : State) (h : causeOf n = none) :
    reqClearCause [n] s = refuse .badValue s := by
  simp only [reqClearCause, h]

/-- The count of a valid frame leaves every cause. -/
theorem causeState_counted (s : State) (c : Cause) : causeState (counted s) c = causeState s c := by
  obtain ⟨_, h⟩ := counted_frame s
  rw [h]; rfl

/-- R140: a clear at the arrival of a frame that counts. -/
theorem clearCause_counted (c : Cause) (s : State) : clearCause c (counted s) = { counted s with
    alm.causes := s.alm.causes.set c.index { causeState s c with occurrence := none }
    alm.attn := attnDue (setCause c { causeState s c with occurrence := none } s)
    trk.notices := s.trk.notices.set c.index false } := by
  obtain ⟨_, h⟩ := counted_frame s
  rw [h]; rfl

/-- R141: ATTN once a cause is no longer pending. -/
theorem attnDue_setCause_cleared (c : Cause) (s : State) :
    attnDue (setCause c { causeState s c with occurrence := none } s) = true ↔
      ∃ c', c' ≠ c ∧ pendingCause s c' = true ∧ s.alm.attentionLevel ≤ (causeState s c').level := by
  rw [attnDue_iff]
  refine exists_congr fun c' => ?_
  rw [pendingCause, causeState_setCause]
  by_cases hc : c' = c
  · simp [hc]
  · simp [hc, pendingCause]

/-- R140, R184: GET-CAUSES reads the eight causes. -/
theorem getCauses_carriedOut {tag : Byte} {s : State} (hopen : s.trk.session ≠ .closed) (h : TakesAtOnce s tag 0x50) :
    exec (.getCauses tag) s = .next (carriedOut tag 0x50
      (allCauses.flatMap fun c => causeResults (causeState s c)) (counted s)) := by
  refine request_carriedOut h hopen (by decide) (by decide) ((carryOut_getCauses _ _).trans ?_)
  simp only [reqGetCauses, causeState_counted]

/-- R140, R184: CLEAR-CAUSE answers what the cause was and clears it. -/
theorem clearCause_carriedOut {tag : Byte} {s : State} (hopen : s.trk.session ≠ .closed) (h : TakesAtOnce s tag 0x51)
    (c : Cause) : exec (.clearCause tag (byteOf c.number)) s =
      .next (carriedOut tag 0x51 (clearResults (causeState s c)) (clearCause c (counted s))) := by
  refine request_carriedOut h hopen (by decide) (by simp) ((carryOut_clearCause _ _).trans ?_)
  rw [reqClearCause_cleared _ (causeOf_number c), causeState_counted]

/-- Settles O52: the cause number is read back, and the clear writes that cause, its notice and ATTN. -/
theorem causesAreReadAndCleared : Obligations.CausesAreReadAndCleared := by
  refine fun tag s hopen => ⟨getCauses_carriedOut hopen, fun h => ⟨fun c => ?_, fun n hn => ?_⟩⟩
  · refine ⟨_, (clearCause_carriedOut hopen h c).trans ?_, attnDue_setCause_cleared c s⟩
    rw [clearCause_counted]
    rfl
  · exact request_refused h hopen (by decide) (by simp) ((carryOut_clearCause _ _).trans
      (reqClearCause_undefined _ (causeOf_undefined hn)))

end Sys2Proof.Machine

/-! The sender at a frame boundary (R161, R162), and the intakes that close the event (R151). -/

namespace Sys2Proof.Machine

/-! ## An intake leaves a busy line busy -/

/-- TTXD carries a frame. -/
def State.sending (s : State) : Bool := s.trk.line.isSome

theorem OnlyRaises.sending {s t : State} (h : OnlyRaises s t) : t.sending = s.sending := by
  induction h with
  | refl => rfl
  | @aside t u _ heq ih =>
    have hline : u.governed.trk.line = t.governed.trk.line := congrArg (·.trk.line) heq
    exact (congrArg Option.isSome hline).trans ih
  | raise c _ ih => rw [← ih, raise_frame]; rfl

/-- R157, step 4: a frame that is aborted stays on the line. -/
theorem sending_abortLine (s : State) : (abortLine s).sending = s.sending := by
  cases hl : s.trk.line with
  | none => simp only [abortLine, hl]
  | some f =>
    simp only [abortLine, hl]
    split
    · simp [State.sending, hl]
    · rfl

theorem sending_closeSession (s : State) : (closeSession s).sending = s.sending := by
  by_cases h : s.trk.session = .closed
  · rw [closeSession_closed h]
  · rw [closeSession_opened h, sending_abortLine]
    rfl

theorem sending_openSession (mode : OpenMode) (s : State) : (openSession mode s).sending = s.sending := by
  obtain ⟨_, _, hstream⟩ := streamOpen_frame mode (closeSession s)
  rw [openSession, openClosedSession_eq, hstream, ← sending_closeSession s]
  rfl

theorem sending_setParam (p : Param) (v : Nat) (s : State) : (setParam p v s).sending = s.sending := by
  have henable : ∀ ch on, (setEnable ch on s).sending = s.sending := by
    intro ch on
    obtain ⟨_, _, _, _, h⟩ := setEnable_frame ch on s
    rw [h]; rfl
  cases p
  case rxEnableA => exact henable .A _
  case rxEnableB => exact henable .B _
  case sessionIdleS =>
    obtain ⟨_, h⟩ := restartIdle_frame { s with trk.sessionIdleS := v }
    show (restartIdle _).sending = _
    rw [h]; rfl
  case level c =>
    show (setLevel c v s).sending = _
    rw [setLevel_eq]; rfl
  all_goals rfl

theorem RequestEffect.sending {s t : State} (h : RequestEffect s t) : t.sending = s.sending := by
  cases h with
  | onlyRaises h => exact h.sending
  | opens mode => exact sending_openSession mode s
  | sets p v _ => exact sending_setParam p v s
  | clears c => rfl

theorem sending_judgeRequest (code : Byte) (args : List Byte) (s : State) :
    (judgeRequest code args s).2.sending = s.sending := by
  rcases judgeRequest_cases code args s with ⟨_, heffect⟩ | ⟨_, m, _, heffect⟩
  · exact heffect.sending
  · rw [heffect]; rfl

theorem sending_takeIn (q : HeldRequest) (s : State) : (takeIn q s).sending = s.sending := by
  have hanswered : ∀ r b t, (pushResponse r b (recordResponse r t)).sending = t.sending := by
    intro r b t
    unfold recordResponse
    split <;> rfl
  unfold takeIn
  split
  · rfl
  · split
    · rfl
    · exact (hanswered _ _ _).trans (sending_judgeRequest _ _ _)

theorem sending_intakes (n : Nat) (s : State) : (intakes n s).sending = s.sending := by
  induction n generalizing s with
  | zero => rfl
  | succ n ih =>
    unfold intakes
    split
    · rfl
    · split
      · rw [ih, sending_takeIn]; rfl
      · rfl

/-- R151, R161: while TTXD carries a frame, an event closes with its intakes alone. -/
theorem settle_of_sending {s : State} (h : s.sending = true) : settle s = intakeAll s := by
  have hbusy : (intakeAll s).sending = true := (sending_intakes _ s).trans h
  obtain ⟨f, hf⟩ := Option.isSome_iff_exists.mp hbusy
  rw [settle, senderDecides_of_busy hf, intakeAll_of_noIntake (intakeAll_noIntake s)]

/-- R151, R161: with nothing to take in and the line at rest, the sender decides first. -/
theorem settle_of_idle {s : State} (hno : NoIntake s) (hidle : s.trk.line = none) :
    settle s = intakeAll (takeFrame s) := by
  rw [settle, intakeAll_of_noIntake hno, senderDecides_of_idle hidle]

/-! ## The sender's five cases -/

/-- R158: the line once its frame has ended. -/
def State.lineRests (s : State) : State := { s with trk.line := none }

/-- R119, spelt out. -/
theorem streamEligible_iff {s : State} : streamEligible s = true ↔
    s.trk.session ≠ .closed ∧ s.dst.state = .running ∧
    ((∃ w ∈ s.dst.window, w.resendPending = true) ∨ (s.dst.waiting ≠ [] ∧ s.dst.window.length < 8)) := by
  simp [streamEligible, resendWaiting, Session.isOpen_iff, and_assoc]

/-- R136: the member with the lowest number, which those before it in the list of all causes are not. -/
theorem lowestNotice_of_least {s : State} {c : Cause} (hin : inNotices s c = true)
    (hleast : ∀ c', inNotices s c' = true → c.number ≤ c'.number) : lowestNotice s = some c := by
  refine List.find?_eq_some_iff_append.mpr
    ⟨hin, allCauses.take c.index, allCauses.drop (c.index + 1), by cases c <;> rfl, fun c' hc' => ?_⟩
  have hlower : c'.number < c.number := by
    revert c'
    cases c <;> decide
  rw [Bool.not_eq_true', ← Bool.not_eq_true]
  exact fun h => Nat.not_le.mpr hlower (hleast c' h)

theorem lowestNotice_eq_none_iff {s : State} : lowestNotice s = none ↔ ∀ c, inNotices s c = false := by
  simp [lowestNotice, List.find?_eq_none, mem_allCauses]

/-- R162, first and fourth case. -/
theorem takeFrame_stream {s : State} (he : streamEligible s = true)
    (h : 3 ≤ s.trk.streamWait ∨ (s.trk.responses = [] ∧ lowestNotice s = none)) : takeFrame s = sendStream s := by
  unfold takeFrame
  split
  · rfl
  · rename_i hfirst
    obtain ⟨hresponses, hnotice⟩ := h.resolve_left fun hwait => hfirst (by simp [he, hwait])
    rw [hresponses, hnotice]

/-- R162, second case. -/
theorem takeFrame_response {s : State} {q : QueuedResponse} {rest : List QueuedResponse}
    (hfirst : ¬ (streamEligible s = true ∧ 3 ≤ s.trk.streamWait)) (h : s.trk.responses = q :: rest) :
    takeFrame s = sendResponse q rest s := by
  unfold takeFrame
  rw [if_neg (by simpa using hfirst), h]

/-- R162, third case. -/
theorem takeFrame_notice {s : State} {c : Cause} (hfirst : ¬ (streamEligible s = true ∧ 3 ≤ s.trk.streamWait))
    (h : s.trk.responses = []) (hc : lowestNotice s = some c) : takeFrame s = sendNotice c s := by
  unfold takeFrame
  rw [if_neg (by simpa using hfirst), h, hc]

/-- R120: a stream frame does not depend on the line. -/
theorem streamSend_lineRests (s : State) :
    streamSend s.lineRests = (streamSend s).map fun x => (x.1, x.2.lineRests) := by
  unfold streamSend State.lineRests
  cases s.dst.window.find? SentItem.resendPending with
  | some w => simp only [Option.map_some, startTimer_eq]; rfl
  | none =>
    cases s.dst.waiting with
    | nil => rfl
    | cons it rest => simp only [Option.map_some, startTimer_eq]; rfl

/-- R120, R162: a stream frame taken at a boundary. -/
theorem sendStream_atBoundary {s u : State} {q : Byte} {it : Item} (h : streamSend s = some ((q, it), u)) :
    sendStream s.lineRests = { u with
      trk.line := some { content := .delivery q it, aborted := false }
      trk.streamWait := 0
      trk.counters.streamFramesSent := bump s.trk.counters.streamFramesSent } := by
  obtain ⟨_, _, _, _, _, hu⟩ := streamSend_frame h
  unfold sendStream
  rw [streamSend_lineRests, h, hu]
  rfl

/-- R137: a notice carries the values of its cause at that moment. -/
theorem sendNotice_of_pending {s : State} {c : Cause} {o : Occurrence} {level : Nat}
    (h : causeState s c = { occurrence := some o, level := level }) : sendNotice c s = { s with
      trk.notices := s.trk.notices.set c.index false
      trk.line := some { content := .notice c o.count level o.first, aborted := false }
      trk.streamWait := waitAfter (streamEligible s) s.trk.streamWait
      trk.counters.noticesSent := bump s.trk.counters.noticesSent } := by
  simp only [sendNotice, h]
  rfl

/-! ## The boundary -/

theorem frameEnds_plain {s : State} {f : LineFrame} (hline : s.trk.line = some f) (hf : f.concludes = false) :
    frameEnds s = s.lineRests := by
  obtain ⟨content, aborted⟩ := f
  simp only [frameEnds, hline]
  cases content with
  | response q => exact if_neg (Bool.eq_false_iff.mp hf)
  | notice c k l t => rfl
  | delivery q it => rfl

theorem frameBoundary_plain {s : State} {f : LineFrame} (hrun : Running s) (hline : s.trk.line = some f)
    (hf : f.concludes = false) : exec .frameBoundary s = .next (settle s.lineRests) :=
  (event_running hrun frameEnds).trans (by rw [frameEnds_plain hline hf])

/-- R151, R162: with nothing to take in first, only the intakes that the frame taken makes possible follow it. -/
theorem settle_lineRests {s t : State} (hno : NoIntake s) (htakes : takeFrame s.lineRests = t)
    (hsending : t.sending = true) : settle s.lineRests = settle t := by
  rw [settle_of_idle (s := s.lineRests) hno rfl, htakes, settle_of_sending hsending]

/-- R162: with no request held, the sender's decision is all. -/
theorem settle_lineRests_of_noneHeld {s : State} (hheld : s.trk.held = []) :
    settle s.lineRests = takeFrame s.lineRests :=
  (settle_of_noneHeld (s := s.lineRests) hheld).trans (senderDecides_of_idle rfl)

/-- R161, R162: the boundary at which a frame is taken. -/
theorem frameBoundary_takes {s t : State} {f : LineFrame} (hrun : Running s) (hline : s.trk.line = some f)
    (hf : f.concludes = false) (hno : NoIntake s) (htakes : takeFrame s.lineRests = t) (hsending : t.sending = true) :
    exec .frameBoundary s = .next (settle t) ∧ (s.trk.held = [] → exec .frameBoundary s = .next t) := by
  refine ⟨?_, fun hheld => ?_⟩
  · rw [frameBoundary_plain hrun hline hf, settle_lineRests hno htakes hsending]
  · rw [frameBoundary_plain hrun hline hf, settle_lineRests_of_noneHeld hheld, htakes]

/-- R151, R162: a request that a response taken makes room for is taken in while that response is being sent. -/
theorem settle_takesIn {s : State} {r : HeldRequest} {held : List HeldRequest} (hsending : s.sending = true)
    (hheld : s.trk.held = r :: held) (hopen : intakeOpen s = true) :
    settle s = settle (takeIn r { s with trk.held := held }) := by
  have hnext : (takeIn r { s with trk.held := held }).sending = true := (sending_takeIn r _).trans hsending
  rw [settle_of_sending hsending, intakeAll_cons hheld hopen, settle_of_sending hnext]

/-- Settles O34, by the sender's five cases; the frame taken is on the line when the intakes follow. -/
theorem senderChoosesInOrder : Obligations.SenderChoosesInOrder := by
  intro s f hrun hline hf leads eligible wait
  have helig : streamEligible s = true ↔ eligible := streamEligible_iff
  have hresponse : ∀ {q rest}, ¬ (eligible ∧ 3 ≤ s.trk.streamWait) → s.trk.responses = q :: rest →
      takeFrame s.lineRests = sendResponse q rest s.lineRests := fun hnot hq =>
    takeFrame_response (mt (And.imp_left helig.mp) hnot) hq
  refine ⟨helig, frameBoundary_plain hrun hline hf, fun hno he hfirst => ?_, fun q rest hno hq hnot => ?_,
    fun c o level hno hq hnot hin hleast hc => ?_, fun hno hq hnone hnot => ?_,
    fun q rest r held hq hfull hheld hready hnot => ?_⟩
  · obtain ⟨⟨⟨q, it⟩, u⟩, hsend⟩ := Option.ne_none_iff_exists'.mp (streamSend_of_eligible (helig.mpr he))
    have hstream : takeFrame s.lineRests = sendStream s.lineRests :=
      takeFrame_stream (helig.mpr he) (hfirst.imp_right (And.imp_right lowestNotice_eq_none_iff.mpr))
    exact ⟨q, it, u, hsend, frameBoundary_takes hrun hline hf hno (hstream.trans (sendStream_atBoundary hsend)) rfl⟩
  · exact frameBoundary_takes hrun hline hf hno (hresponse hnot hq) rfl
  · have hnotice : takeFrame s.lineRests = sendNotice c s.lineRests :=
      takeFrame_notice (mt (And.imp_left helig.mp) hnot) hq (lowestNotice_of_least hin hleast)
    exact frameBoundary_takes hrun hline hf hno (hnotice.trans (sendNotice_of_pending hc)) rfl
  · have hnothing : NothingToSend s.lineRests :=
      ⟨hq, lowestNotice_eq_none_iff.mpr hnone, Bool.eq_false_iff.mpr (mt helig.mp hnot)⟩
    refine ⟨frameBoundary_plain hrun hline hf, fun hheld => ?_⟩
    rw [frameBoundary_plain hrun hline hf, settle_lineRests_of_noneHeld hheld, takeFrame_of_nothing hnothing]
    rfl
  · have hno : NoIntake s := .inr (.inr (by rw [hq, List.length_cons, hfull]))
    have hopen : intakeOpen (sendResponse q rest s.lineRests) = true := by
      simp [intakeOpen, sendResponse, putOnLine, State.lineRests, hready, hfull]
    rw [frameBoundary_plain hrun hline hf, settle_lineRests hno (hresponse hnot hq) rfl,
      settle_takesIn (s := sendResponse q rest s.lineRests) rfl hheld hopen]
    rfl

end Sys2Proof.Machine

/-! What closes an event (R151, R153, R161, R162): the intakes, the sender's five cases and what they leave as it
is; and the idle timeout (R160). -/

namespace Sys2Proof.Machine

/-! ## A closed event -/

/-- R151, R161: the closing of an event leaves nothing to take in, and a line at rest only with nothing to send. -/
theorem settle_settled (s : State) : Settled (settle s) := by
  refine ⟨intakeAll_noIntake _, ?_⟩
  have hdecided : settle s = intakeAll (senderDecides (intakeAll s)) := rfl
  cases hline : (senderDecides (intakeAll s)).trk.line with
  | some f =>
    have hsending : (settle s).sending = true := by
      rw [hdecided, intakeAll, sending_intakes, State.sending, hline]
      rfl
    exact .inl (Option.isSome_iff_ne_none.mp hsending)
  | none =>
    have hidle : (intakeAll s).trk.line = none := by
      cases hl : (intakeAll s).trk.line with
      | none => rfl
      | some f => rw [senderDecides_of_busy hl, hl] at hline; cases hline
    rw [senderDecides_of_idle hidle] at hline hdecided
    have hsame : takeFrame (intakeAll s) = intakeAll s := (takeFrame_sends _).resolve_left fun h => h hline
    rw [hdecided, hsame, intakeAll_of_noIntake (intakeAll_noIntake s)]
    exact .inr (nothingToSend_of_idle hline)

theorem settle_of_closed {s : State} (h : Settled s) : settle s = s := settle_of_settled h rfl rfl rfl

/-- An event that is closed stays closed. -/
@[simp] theorem settle_settle (s : State) : settle (settle s) = settle s := settle_of_closed (settle_settled s)

/-- R151: the oldest request that can be taken in is taken in first. -/
theorem settle_takesOldest {s : State} {q : HeldRequest} {rest : List HeldRequest} (hheld : s.trk.held = q :: rest)
    (hopen : intakeOpen s = true) : settle s = settle (takeIn q { s with trk.held := rest }) := by
  unfold settle
  rw [intakeAll_cons hheld hopen]

/-- R161: with nothing to take in and the line at rest, the closing goes on from the sender's decision. -/
theorem settle_takesFrame {s : State} (hno : NoIntake s) (hidle : s.trk.line = none) :
    settle s = settle (takeFrame s) := by
  rcases takeFrame_sends s with hsends | hsame
  · rw [settle_of_idle hno hidle, settle_of_sending (Option.isSome_iff_ne_none.mpr hsends)]
  · rw [hsame]

/-! ## The items of the stream -/

/-- R120: a send moves an item from the head of the waiting queue to the end of the window, or clears a mark. -/
theorem streamSend_items {s t : State} {x : Byte × Item} (h : streamSend s = some (x, t)) :
    t.dst.items = s.dst.items := by
  unfold streamSend at h
  split at h
  · obtain ⟨-, rfl⟩ := Prod.mk.inj (Option.some.inj h)
    rw [startTimer_eq]
    simp only [DeliveryStream.items, (clearFirstPending_items _).1]
  · split at h
    · cases h
    · rename_i it rest hwaiting
      obtain ⟨-, rfl⟩ := Prod.mk.inj (Option.some.inj h)
      rw [startTimer_eq]
      simp [DeliveryStream.items, hwaiting]

theorem sendStream_items (s : State) : (sendStream s).dst.items = s.dst.items := by
  unfold sendStream
  split
  · rfl
  · rename_i q it t h
    have hitems : t.dst.items = s.dst.items := streamSend_items h
    exact hitems

/-- R162: the sender's decision keeps the items of the stream in their order. -/
theorem takeFrame_items (s : State) : (takeFrame s).dst.items = s.dst.items := by
  unfold takeFrame
  split
  · exact sendStream_items s
  · split
    · rfl
    · split
      · rfl
      · split
        · exact sendStream_items s
        · rfl

theorem senderDecides_items (s : State) : (senderDecides s).dst.items = s.dst.items := by
  unfold senderDecides
  split
  · rfl
  · exact takeFrame_items s

/-- R120, R162: a stream frame taken. -/
theorem sendStream_of_send {s u : State} {q : Byte} {it : Item} (h : streamSend s = some ((q, it), u)) :
    sendStream s = { u with
      trk.line := some { content := .delivery q it, aborted := false }
      trk.streamWait := 0
      trk.counters.streamFramesSent := bump s.trk.counters.streamFramesSent } := by
  obtain ⟨_, _, _, _, _, hu⟩ := streamSend_frame h
  unfold sendStream
  rw [h, hu]
  rfl

/-! ## One intake -/

theorem takeIn_empty (tag : Byte) (s : State) : takeIn { tag := tag, body := [] } s = answerEmpty tag s := rfl

/-- R152: a repeated nonzero tag and code is answered from the cache. -/
theorem takeIn_cached {tag code : Byte} {args : List Byte} {s : State} {k : CacheRecord} (htag : tag ≠ 0)
    (hk : findCached s.trk.cache tag code = some k) :
    takeIn { tag := tag, body := code :: args } s = answerDuplicate k s := by
  simp only [takeIn, if_neg htag, hk]

/-- R151: a request that the cache does not answer is judged. -/
theorem takeIn_uncached {tag code : Byte} {args : List Byte} {s : State}
    (h : tag = 0 ∨ findCached s.trk.cache tag code = none) :
    takeIn { tag := tag, body := code :: args } s = answerAfresh tag code args s := by
  have hnone : (if tag = 0 then none else findCached s.trk.cache tag code) = none := by
    split
    · rfl
    · exact h.resolve_left ‹_›
  simp only [takeIn, hnone]

/-- R158, R166: which responses the engine waits for. -/
theorem concludesSession_eq (code : Byte) (st : Status) :
    concludesSession code st = decide ((code = 0x11 ∨ code = 0x13) ∧ st = .ok) := by
  simp [concludesSession, Bool.decide_or, beq_eq_decide]

/-- R153: a response is recorded under a nonzero tag. -/
theorem recordResponse_eq (r : Response) (s : State) :
    recordResponse r s = { s with trk.cache := if r.tag = 0 then s.trk.cache else recordIn s.trk.cache r } := by
  unfold recordResponse
  split <;> rfl

/-- Settles O6, by the intake that is possible, the sender's decision and its five cases. -/
theorem settleOnlySends : Obligations.SettleOnlySends := by
  refine ⟨fun s => ⟨settle_of_closed, fun hno hbusy => ?_, settle_takesFrame, fun q rest hheld hready hroom => ?_,
    fun hheld => ?_⟩, fun tag code args s => ⟨rfl, fun k htag hk => ?_, fun huncached => ?_⟩, fun s => ?_⟩
  · exact settle_of_closed ⟨hno, .inl hbusy⟩
  · exact settle_takesOldest hheld (by simp [intakeOpen, hready, hroom])
  · rw [settle_of_noneHeld hheld]
    refine ⟨(senderDecides s).dst, (senderDecides s).trk, ?_, senderDecides_items s⟩
    obtain ⟨_, _, _, _, _, _, _, _, _, _, _, _, hframe⟩ := senderDecides_frame s
    rw [hframe]
  · exact takeIn_cached htag hk
  · intro j r closes
    calc takeIn { tag := tag, body := code :: args } s
        = pushResponse r (concludesSession code j.1.status) (recordResponse r j.2) := takeIn_uncached huncached
      _ = _ := by rw [recordResponse_eq, concludesSession_eq]; rfl
  · intro eligible wait
    have helig : streamEligible s = true ↔ eligible := streamEligible_iff
    refine ⟨helig, fun he hfirst => ?_, fun q rest hq hnot => ?_, fun c o level hq hnot hin hleast hc => ?_,
      fun hq hnone hnot => ?_⟩
    · obtain ⟨⟨⟨q, it⟩, u⟩, hsend⟩ := Option.ne_none_iff_exists'.mp (streamSend_of_eligible (helig.mpr he))
      refine ⟨q, it, u, hsend, ?_⟩
      rw [takeFrame_stream (helig.mpr he) (hfirst.imp_right (And.imp_right lowestNotice_eq_none_iff.mpr)),
        sendStream_of_send hsend]
    · exact takeFrame_response (mt (And.imp_left helig.mp) hnot) hq
    · rw [takeFrame_notice (mt (And.imp_left helig.mp) hnot) hq (lowestNotice_of_least hin hleast),
        sendNotice_of_pending hc]
      rfl
    · exact takeFrame_of_nothing
        ⟨hq, lowestNotice_eq_none_iff.mpr hnone, Bool.eq_false_iff.mpr (mt helig.mp hnot)⟩

/-! ## The idle timeout -/

theorem timedOut_eq (s : State) : timedOut s =
    { closeSession s with
      trk.responses := [], trk.counters.idleCloses := bump s.trk.counters.idleCloses } := by
  obtain ⟨_, _, _, _, _, _, _, _, _, _, hclose⟩ := closeSession_frame s
  rw [timedOut, hclose]

@[simp] theorem timedOut_mre (s : State) : (timedOut s).mre = s.mre := closeSession_mre s

/-- R160: IDLE_DEADLINE at its deadline in an OPEN session. -/
theorem exec_idleDeadline_reached {s : State} {d : PartTime} (h : Running s)
    (hopen : s.trk.session = .opened (some d)) (hd : reached s.now d = true) :
    exec .idleDeadline s = .next (settle (idleTimeout s)) := by
  show execIdleDeadline s = _
  simp only [execIdleDeadline, event_running h, hopen, hd, if_true]

/-- R159: without a deadline that is reached the command closes its event alone. -/
theorem exec_idleDeadline_early {s : State} (h : Running s)
    (hearly : s.trk.session = .closed ∨ s.trk.session = .opened none ∨
      ∃ d, s.trk.session = .opened (some d) ∧ reached s.now d = false) :
    exec .idleDeadline s = .next (settle s) := by
  show execIdleDeadline s = _
  rcases hearly with hs | hs | ⟨d, hs, hd⟩
  · simp only [execIdleDeadline, event_running h, hs]
  · simp only [execIdleDeadline, event_running h, hs]
  · simp only [execIdleDeadline, event_running h, hs, hd, Bool.false_eq_true, if_false]

/-- Settles O37, by whether the deadline is reached and a response that the engine waits for was in the queue. -/
theorem idleDeadlineCloses : Obligations.IdleDeadlineCloses := by
  intro s hrun idled
  refine ⟨fun d hopen hd => ?_, exec_idleDeadline_early hrun⟩
  have hidled : timedOut s = idled := timedOut_eq s
  rw [exec_idleDeadline_reached hrun hopen hd, idleTimeout_eq]
  refine ⟨fun hplain => ?_, fun hconcludes => ?_⟩
  · have hnone : ¬ s.trk.responses.any QueuedResponse.concludes = true := by simpa using hplain
    rw [if_neg hnone, hidled]
  · have hsome : s.trk.responses.any QueuedResponse.concludes = true := by simpa using hconcludes
    rw [if_pos hsome]
    refine ⟨fun hm => ?_, fun hm => ?_⟩
    · rw [engineReleased_closing ((timedOut_mre s).trans hm), hidled]
    · rw [engineReleased_restarting ((timedOut_mre s).trans hm), hidled]

end Sys2Proof.Machine

/-! REQUEST frames (section 8.3): held, overrun or taken at once; requests that are answered without being carried
out (R149–R153, R167). -/

namespace Sys2Proof.Machine

/-! ## A REQUEST frame -/

/-- R149: a REQUEST frame of at most 80 body bytes is a valid frame whose request is to be held. -/
theorem receiveFrame_request {body : List Byte} (hbody : body.length ≤ 80) (tag : Byte) (s : State) :
    receiveFrame 0x01 tag body s = holdRequest tag body (counted s) := by
  unfold receiveFrame
  rw [if_neg (Nat.not_lt.mpr hbody), if_neg (by decide), if_pos rfl]
  rfl

theorem frameArrives_clean {s : State} (hclean : s.trk.assembler = .hunt ∨ s.trk.assembler = .collecting [] false)
    (kind tag : Byte) (body : List Byte) :
    frameArrives kind tag body s = receiveFrame kind tag body (newContent s) := by
  rw [frameArrives, openingDelimiter_clean hclean]

/-- R150: with two requests held, a further one is discarded by overrun. -/
theorem requestFrame_overrun {s : State} {tag : Byte} {body : List Byte}
    (hclean : s.trk.assembler = .hunt ∨ s.trk.assembler = .collecting [] false) (hbody : body.length ≤ 80)
    (hfull : 2 ≤ s.trk.held.length) :
    frameArrives 0x01 tag body s = raise .trunkRxError
      { counted s with trk.counters.overruns := bump s.trk.counters.overruns } := by
  have hoverruns : (counted s).trk.counters.overruns = s.trk.counters.overruns := by
    obtain ⟨_, hcounted⟩ := counted_frame s
    rw [hcounted]
  rw [frameArrives_clean hclean, receiveFrame_request hbody]
  change holdRequest tag body (counted s) = _
  rw [holdRequest, counted_trk_held, if_neg (Nat.not_lt.mpr hfull), hoverruns]

/-- R150, R151: a request that is taken at once is taken in in the event of its arrival, and then the sender
decides. -/
theorem event_takesIn {s : State} {tag code : Byte} (h : TakesAtOnce s 0 code) {body : List Byte}
    (hbody : body.length ≤ 80) :
    event (frameArrives 0x01 tag body) s =
      .next (senderDecides (takeIn { tag := tag, body := body } (counted s))) := by
  have hheld : frameArrives 0x01 tag body s = { counted s with trk.held := [{ tag := tag, body := body }] } := by
    rw [requestFrame_held h.clean hbody (by rw [h.noneHeld]; decide), h.noneHeld]
    rfl
  have hopen : intakeOpen { counted s with trk.held := [{ tag := tag, body := body }] } = true := by
    have hready := h.ready
    have hroom := h.room
    simp [intakeOpen, hready, hroom]
  have hcounted : ({ counted s with trk.held := [] } : State) = counted s := by
    obtain ⟨_, hc⟩ := counted_frame s
    rw [hc, ← h.noneHeld]
  have hnone : (takeIn { tag := tag, body := body } (counted s)).trk.held = [] := by
    rw [takeIn_held, counted_trk_held, h.noneHeld]
  rw [event_running h.running, hheld, settle_takesOldest rfl hopen]
  change Host.Outcome.next (settle (takeIn _ { counted s with trk.held := [] })) = _
  rw [hcounted, settle_of_noneHeld hnone]

/-- Settles O40, by whether the held-request buffer is full; the request rows are their frames by definition. -/
theorem requestFramesAreHeldAndTaken : Obligations.RequestFramesAreHeldAndTaken := by
  refine ⟨fun tag body s hrun hclean hbody => ⟨fun hroom => ?_, fun hfull => ?_⟩, fun tag code args s h hargs => ?_,
    fun tag x y bs id w v re rd cs ww s => ?_⟩
  · exact (event_running hrun _).trans (by rw [requestFrame_held hclean hbody hroom])
  · exact (event_running hrun _).trans (by rw [requestFrame_overrun hclean hbody hfull])
  · intro r
    refine (requestArrives_atOnce h hargs (reply := r.1) (t := r.2) rfl).trans ?_
    rw [concludesSession_eq]
    rfl
  · exact ⟨rfl, rfl, rfl, rfl, rfl, rfl, rfl, rfl, rfl, rfl, rfl, rfl, rfl, rfl, rfl, rfl, rfl, rfl, rfl, rfl, rfl⟩

/-! ## Requests that are refused in the event of their arrival -/

/-- R151, R168: a request taken at once that is judged with a refusal. -/
theorem request_answersRefusal {s : State} {tag code : Byte} {args : List Byte} {st : Status}
    (h : TakesAtOnce s tag code) (hargs : args.length ≤ 79) (hst : st ≠ .ok)
    (hjudge : judgeRequest code args (counted s) = refuse st (counted s)) :
    exec (.requestFrame tag (code :: args)) s = .next (refusedWith tag code st s) := by
  refine (requestArrives_atOnce h hargs hjudge).trans ?_
  rw [concludesSession, beq_eq_false_iff_ne.mpr hst, Bool.and_false]
  rfl

/-- R151: a code that the part does not define. -/
theorem judgeRequest_undefined {code : Byte} (h : code ∉ definedCodes) (args : List Byte) (s : State) :
    judgeRequest code args s = refuse .badRequest s := by
  have hundefined : definedCodes.contains code = false := by simpa using h
  simp only [judgeRequest, hundefined, Bool.not_false, if_true]

/-- R151: in CLOSED a defined request other than OPEN-SESSION and GET-STATUS. -/
theorem judgeRequest_closed {s : State} {code : Byte} (hclosed : s.trk.session.isOpen = false)
    (hdefined : definedCodes.contains code = true) (hopen : code ≠ 0x10) (hstatus : code ≠ 0x12)
    (args : List Byte) : judgeRequest code args s = refuse .notOpen s := by
  simp only [judgeRequest, hdefined, hclosed, bne_iff_ne.mpr hopen, bne_iff_ne.mpr hstatus, Bool.not_true,
    Bool.not_false, Bool.and_true, Bool.false_eq_true, if_false, if_true]

/-- R151: a defined request that the session lets through goes to the request engine. -/
theorem judgeRequest_passed {s : State} {code : Byte} (hdefined : definedCodes.contains code = true)
    (hpassed : s.trk.session.isOpen = true ∨ code = 0x10 ∨ code = 0x12) (args : List Byte) :
    judgeRequest code args s = carryOut code args s := by
  have hpass : (!s.trk.session.isOpen && code != 0x10 && code != 0x12) = false := by
    rcases hpassed with h | rfl | rfl
    · rw [h]; rfl
    · simp
    · simp
  simp only [judgeRequest, hdefined, hpass, Bool.not_true, Bool.false_eq_true, if_false]

/-- R203: the requests whose arguments have a fixed length, with that length. -/
def argumentLengths : List (Byte × Nat) :=
  [(0x10, 1), (0x11, 0), (0x12, 0), (0x13, 0), (0x21, 1), (0x30, 12), (0x31, 3), (0x32, 3), (0x33, 1), (0x41, 2),
    (0x42, 2), (0x50, 0), (0x51, 1), (0x52, 1), (0x53, 1), (0x60, 2), (0x61, 0)]

theorem argumentLengths_defined : ∀ p ∈ argumentLengths, definedCodes.contains p.1 = true := by decide

/-- R167, R203: arguments of another length than the request has. -/
theorem carryOut_wrongLength {code : Byte} {n : Nat} (h : (code, n) ∈ argumentLengths) {args : List Byte}
    (hargs : args.length ≠ n) (s : State) : carryOut code args s = refuse .badFormat s := by
  simp only [argumentLengths, List.mem_cons, List.not_mem_nil, Prod.mk.injEq, or_false] at h
  rcases h with ⟨rfl, rfl⟩ | ⟨rfl, rfl⟩ | ⟨rfl, rfl⟩ | ⟨rfl, rfl⟩ | ⟨rfl, rfl⟩ | ⟨rfl, rfl⟩ | ⟨rfl, rfl⟩ | ⟨rfl, rfl⟩ |
    ⟨rfl, rfl⟩ | ⟨rfl, rfl⟩ | ⟨rfl, rfl⟩ | ⟨rfl, rfl⟩ | ⟨rfl, rfl⟩ | ⟨rfl, rfl⟩ | ⟨rfl, rfl⟩ | ⟨rfl, rfl⟩ | ⟨rfl, rfl⟩
  all_goals
    simp only [carryOut, BitVec.reduceEq, if_false, if_true, reqOpenSession, reqCloseSession, reqGetStatus,
      reqWarmRestart, reqGetParameter, reqPutStation, reqDropStation, reqGetStation, reqListStations,
      reqCancelDownlink, reqGetDownlink, reqGetCauses, reqClearCause, reqGetCounters, reqClearCounters,
      reqCarrierTest, reqCarrierStop]
    split
    · exact absurd rfl hargs
    · rfl

/-- R72, R203: a QUEUE-DOWNLINK whose payload has another length than it states. -/
theorem reqQueueDownlink_wrongPayload {before payload : List Byte} {n : Byte} (hbefore : before.length = 7)
    (hpayload : payload.length ≠ n.toNat) (s : State) :
    reqQueueDownlink (before ++ n :: payload) s = refuse .badFormat s := by
  match before, hbefore with
  | [_, _, _, _, _, _, _], _ => exact if_pos hpayload

/-- R203: a QUEUE-DOWNLINK that ends before its payload. -/
theorem reqQueueDownlink_short {args : List Byte} (hargs : args.length < 8) (s : State) :
    reqQueueDownlink args s = refuse .badFormat s := by
  unfold reqQueueDownlink
  split
  · simp only [List.length_cons] at hargs
    omega
  · rfl

/-- R151, R168: a defined request that the session lets through, refused for the form of its arguments. -/
theorem request_wrongFormat {s : State} {tag code : Byte} {args : List Byte} (h : TakesAtOnce s tag code)
    (hargs : args.length ≤ 79) (hdefined : definedCodes.contains code = true)
    (hpassed : s.trk.session ≠ .closed ∨ code = 0x10 ∨ code = 0x12)
    (hcarry : ∀ t, carryOut code args t = refuse .badFormat t) :
    exec (.requestFrame tag (code :: args)) s = .next (refusedWith tag code .badFormat s) := by
  have hpass : (counted s).trk.session.isOpen = true ∨ code = 0x10 ∨ code = 0x12 := by
    rw [counted_isOpen]
    exact hpassed.imp_left Session.isOpen_of_ne_closed
  exact request_answersRefusal h hargs nofun ((judgeRequest_passed hdefined hpass args).trans (hcarry _))

/-- R167: the request codes that CLOSED refuses. -/
theorem refusedInClosed : ∀ code ∈ ([0x11, 0x13, 0x20, 0x21, 0x30, 0x31, 0x32, 0x33, 0x40, 0x41, 0x42, 0x50, 0x51,
    0x52, 0x53, 0x60, 0x61] : List Byte), definedCodes.contains code = true ∧ code ≠ 0x10 ∧ code ≠ 0x12 := by
  simp [definedCodes]

/-- Settles O41, by the cache, the empty body, the code, the session and the form of the arguments. -/
theorem answeredAtIntake : Obligations.AnsweredAtIntake := by
  refine ⟨fun tag code args s k h htag hargs hk => ?_, fun tag s h => ?_, fun tag code args s h hargs =>
    ⟨fun hcode => ?_, fun hcode hclosed => ?_, fun hpassed => ⟨fun n hn hlength => ?_, ?_, ?_, ?_⟩⟩⟩
  · have hcounted : (counted s).trk.counters.duplicates = s.trk.counters.duplicates := by
      obtain ⟨_, hc⟩ := counted_frame s
      rw [hc]
    refine (event_takesIn h (body := code :: args) (Nat.succ_le_succ hargs)).trans ?_
    rw [takeIn_cached htag (by rwa [counted_trk_cache]), answerDuplicate, hcounted, pushResponse]
    simp only [counted_trk_responses]
  · refine (event_takesIn h (body := []) (Nat.zero_le _)).trans ?_
    rw [takeIn_empty, answerEmpty, pushResponse, counted_trk_responses]
    rfl
  · exact request_answersRefusal h hargs nofun (judgeRequest_undefined hcode args _)
  · obtain ⟨hdefined, hopen, hstatus⟩ := refusedInClosed code hcode
    have hnot : (counted s).trk.session.isOpen = false := by rw [counted_isOpen, hclosed]; rfl
    exact request_answersRefusal h hargs nofun (judgeRequest_closed hnot hdefined hopen hstatus args)
  · exact request_wrongFormat h hargs (argumentLengths_defined _ hn) hpassed (carryOut_wrongLength hn hlength)
  · rintro rfl rfl
    exact request_wrongFormat h hargs rfl hpassed fun _ => rfl
  · rintro rfl hshort
    exact request_wrongFormat h hargs rfl hpassed (reqQueueDownlink_short hshort)
  · rintro before payload n rfl hbefore rfl hpayload
    exact request_wrongFormat h hargs rfl hpassed (reqQueueDownlink_wrongPayload hbefore hpayload)

end Sys2Proof.Machine

/-! What every command keeps: the queue of commands; and the end of every event (R151, R161). -/

namespace Sys2Proof.Machine

/-! ## Changes within an event -/

/-- The queue of commands, the time base and the hold in reset are the same in both states. -/
structure KeepsClock (s t : State) : Prop where
  queue : t.pending = s.pending
  clock : t.tbs = s.tbs
  hold : t.inReset = s.inReset

theorem KeepsClock.refl (s : State) : KeepsClock s s := ⟨rfl, rfl, rfl⟩

theorem KeepsClock.trans {s t u : State} (h : KeepsClock s t) (g : KeepsClock t u) : KeepsClock s u :=
  ⟨g.queue.trans h.queue, g.clock.trans h.clock, g.hold.trans h.hold⟩

theorem KeepsClock.ite {p : Prop} [Decidable p] {s t u : State} (ht : KeepsClock s t) (hu : KeepsClock s u) :
    KeepsClock s (if p then t else u) := by
  split <;> assumption

/-- What keeps those of `t` keeps those of `s`, when both hold the same. -/
theorem KeepsClock.from_eq {s t u : State} (g : KeepsClock t u) (hq : t.pending = s.pending) (hc : t.tbs = s.tbs)
    (hh : t.inReset = s.inReset) : KeepsClock s u :=
  KeepsClock.trans ⟨hq, hc, hh⟩ g

/-- What keeps the part going keeps it running. -/
theorem KeepsClock.running {s t : State} (h : KeepsClock s t) (hs : Running s) : Running t := by
  simpa only [Running, h.clock, h.hold] using hs

theorem raise_keepsClock (c : Cause) (s : State) : KeepsClock s (raise c s) := by
  rw [raise_frame]; exact ⟨rfl, rfl, rfl⟩

/-! ### The field side -/

theorem setReceiver_keepsClock (ch : Channel) (r : Receiver) (s : State) : KeepsClock s (setReceiver ch r s) :=
  ⟨by simp, by simp, by simp⟩

theorem losePreamble_keepsClock (ch : Channel) (s : State) : KeepsClock s (losePreamble ch s) := by
  rw [losePreamble_eq]; exact setReceiver_keepsClock _ _ s

theorem missSync_keepsClock (ch : Channel) (s : State) : KeepsClock s (missSync ch s) := by
  rw [missSync_eq]; exact setReceiver_keepsClock _ _ s

theorem bodyError_keepsClock (ch : Channel) (e : BodyError) (s : State) : KeepsClock s (bodyError ch e s) := by
  rw [bodyError_eq]
  have hreport : ∀ t, KeepsClock t (reportReceiverError t) := fun t => by
    obtain ⟨_, _, h⟩ := reportReceiverError_frame t
    rw [h]
    exact ⟨rfl, rfl, rfl⟩
  exact (setReceiver_keepsClock ch _ s).trans (hreport _)

theorem handOver_keepsClock (c : Copy) (s : State) : KeepsClock s (handOver c s) := by
  rw [handOver_eq]
  have hhandled : KeepsClock (handed c s) (handleCopy c (handed c s)) := by
    obtain ⟨_, _, _, _, _, _, _, _, h⟩ := handleCopy_frame c (handed c s)
    rw [h]
    exact ⟨rfl, rfl, rfl⟩
  exact (setReceiver_keepsClock c.channel _ s).trans hhandled

theorem endTelegram_keepsClock (ch : Channel) (t : Tracking) (bytes : List Byte) (reg : Word16) (s : State) :
    KeepsClock s (endTelegram ch t bytes reg s) := by
  unfold endTelegram
  dsimp only
  refine .ite (bodyError_keepsClock _ _ _) ?_
  split
  · exact bodyError_keepsClock _ _ _
  · exact handOver_keepsClock _ _

theorem decodedCell_keepsClock (ch : Channel) (bit soft : Bool) (time : Nat) (s : State) :
    KeepsClock s (decodedCell ch bit soft time s) := by
  have hset : ∀ st, KeepsClock s (setRxState ch st s) := fun st => setReceiver_keepsClock _ _ s
  cases hst : rxState s ch with
  | disabled => rw [decodedCell_disabled hst]; exact .refl s
  | hunt c => rw [decodedCell_hunt hst]; exact hset _
  | preamble t n => rw [decodedCell_preamble hst]; exact .ite (losePreamble_keepsClock _ _) (hset _)
  | sync t w fs n =>
    rw [decodedCell_sync hst]
    exact .ite (hset _) (.ite (missSync_keepsClock _ _) (hset _))
  | body t bytes cur nbits reg =>
    rw [decodedCell_body hst]
    exact .ite (hset _) (.ite (bodyError_keepsClock _ _ _) (.ite (endTelegram_keepsClock _ _ _ _ _) (hset _)))

theorem violation_keepsClock (ch : Channel) (s : State) : KeepsClock s (violation ch s) := by
  unfold violation
  split
  case h_1 => exact .refl s
  case h_5 => exact bodyError_keepsClock _ _ s
  all_goals exact losePreamble_keepsClock _ s

theorem applyVerdict_keepsClock (ch : Channel) (v : CellVerdict) (s : State) :
    KeepsClock s (applyVerdict ch v s) := by
  cases v with
  | waiting p =>
    obtain ⟨r, h⟩ := setProgress_eq (s := s) ch p
    show KeepsClock s (setProgress ch p s)
    rw [h]
    exact setReceiver_keepsClock ch r s
  | cell bit soft ref => exact decodedCell_keepsClock _ _ _ _ s
  | violation => exact violation_keepsClock ch s

theorem lineQuiet_keepsClock (ch : Channel) (time : Nat) (s : State) : KeepsClock s (lineQuiet ch time s) := by
  have honce : ∀ t, KeepsClock t (quietOnce ch time t) := by
    intro t
    unfold quietOnce
    split
    · exact .refl t
    · exact applyVerdict_keepsClock _ _ t
  exact (honce s).trans (honce _)

theorem lineEdge_keepsClock (ch : Channel) (rising : Bool) (time : Nat) (s : State) :
    KeepsClock s (lineEdge ch rising time s) := by
  have hact : ∀ t, KeepsClock t (actOnEdge ch rising time t) := by
    intro t
    unfold actOnEdge
    split
    case h_1 => exact .refl t
    case h_2 hidle => rw [anchorEdge_eq hidle]; exact setReceiver_keepsClock _ _ t
    all_goals
      split
      · exact .refl t
      · exact applyVerdict_keepsClock _ _ t
  rw [lineEdge_eq]
  exact (lineQuiet_keepsClock ch (time - 1) s).trans (hact _)

theorem closeRecord_keepsClock (r : Record) (b : Bool) (s : State) : KeepsClock s (closeRecord r b s) := by
  obtain ⟨_, _, _, _, _, _, h⟩ := closeRecord_frame r b s
  rw [h]
  exact ⟨rfl, rfl, rfl⟩

theorem RequestFrame.keepsClock {s t : State} (h : RequestFrame s t) : KeepsClock s t := by
  obtain ⟨_, _, _, _, _, _, _, _, _, _, _, _, _, _, _, _, _, ht⟩ := h
  rw [ht]
  exact ⟨Eq.refl _, Eq.refl _, Eq.refl _⟩

theorem takeTransmissionEnd_keepsClock (i : Fin 16) (s : State) : KeepsClock s (takeTransmissionEnd i s) := by
  unfold takeTransmissionEnd
  split
  · exact .ite ⟨rfl, rfl, rfl⟩ ⟨rfl, rfl, rfl⟩
  all_goals exact .refl s

theorem arbiter_keepsClock (s : State) : KeepsClock s (arbiter s) := by
  rw [arbiter_frame]; exact ⟨rfl, rfl, rfl⟩

/-! ### The closing of an event -/

theorem takeFrame_keepsClock (s : State) : KeepsClock s (takeFrame s) := by
  obtain ⟨_, _, _, _, _, _, _, _, _, _, _, _, h⟩ := takeFrame_frame s
  rw [h]
  exact ⟨rfl, rfl, rfl⟩

theorem takeIn_keepsClock (q : HeldRequest) (s : State) : KeepsClock s (takeIn q s) := by
  obtain ⟨t, _, hframe, h⟩ := takeIn_frame q s
  rw [h]
  exact hframe.keepsClock.trans ⟨rfl, rfl, rfl⟩

theorem intakes_keepsClock (n : Nat) (s : State) : KeepsClock s (intakes n s) := by
  induction n generalizing s with
  | zero => exact .refl s
  | succ n ih =>
    unfold intakes
    split
    · exact .refl s
    · rename_i q rest _
      have htaken : KeepsClock s (takeIn q { s with trk.held := rest }) :=
        (takeIn_keepsClock q { s with trk.held := rest }).from_eq rfl rfl rfl
      exact .ite (htaken.trans (ih _)) (.refl s)

theorem settle_keepsClock (s : State) : KeepsClock s (settle s) := by
  have hdecides : ∀ t, KeepsClock t (senderDecides t) := by
    intro t
    unfold senderDecides
    split
    · exact .refl t
    · exact takeFrame_keepsClock t
  exact ((intakes_keepsClock _ s).trans (hdecides _)).trans (intakes_keepsClock _ _)

/-! ### The trunk receiver -/

theorem discardContent_keepsClock (f : ContentFault) (s : State) : KeepsClock s (discardContent f s) :=
  (raise_keepsClock _ _).from_eq rfl rfl rfl

theorem takeLineError_keepsClock (s : State) : KeepsClock s (takeLineError s) :=
  (raise_keepsClock _ _).from_eq rfl rfl rfl

theorem counted_keepsClock (s : State) : KeepsClock s (counted s) := by
  obtain ⟨_, h⟩ := counted_frame s
  rw [h]
  exact ⟨rfl, rfl, rfl⟩

theorem holdRequest_keepsClock (tag : Byte) (body : List Byte) (s : State) :
    KeepsClock s (holdRequest tag body s) :=
  .ite ⟨rfl, rfl, rfl⟩ ((raise_keepsClock _ _).from_eq rfl rfl rfl)

theorem receiveFrame_keepsClock (kind tag : Byte) (body : List Byte) (s : State) :
    KeepsClock s (receiveFrame kind tag body s) := by
  have hack : KeepsClock (counted s) (takeAck tag (counted s)) := by
    obtain ⟨_, _, h⟩ := takeAck_frame tag (counted s)
    rw [h]
    exact ⟨rfl, rfl, rfl⟩
  have hkind : KeepsClock s (discardKind (newContent s)) := ⟨rfl, rfl, rfl⟩
  exact .ite ((discardContent_keepsClock _ s).trans ⟨rfl, rfl, rfl⟩)
    (.ite (.ite ((counted_keepsClock s).trans hack) hkind)
      (.ite ((counted_keepsClock s).trans (holdRequest_keepsClock _ _ _)) hkind))

theorem endContent_keepsClock (content : List Byte) (s : State) : KeepsClock s (endContent content s) := by
  unfold endContent
  split
  · exact ⟨rfl, rfl, rfl⟩
  · exact .ite (discardContent_keepsClock _ s)
      (.ite (receiveFrame_keepsClock _ _ _ s) (discardContent_keepsClock _ s))
  · exact discardContent_keepsClock _ s

theorem addContent_keepsClock (content : List Byte) (b : Byte) (s : State) :
    KeepsClock s (addContent content b s) :=
  .ite (discardContent_keepsClock _ s) ⟨rfl, rfl, rfl⟩

theorem byteEffect_keepsClock (b : Byte) (s : State) : KeepsClock s (byteEffect b s) := by
  unfold byteEffect
  split
  · exact .ite ⟨rfl, rfl, rfl⟩ (.refl s)
  · exact .ite (endContent_keepsClock _ s) (.ite ⟨rfl, rfl, rfl⟩ (addContent_keepsClock _ _ s))
  · exact .ite (addContent_keepsClock _ _ s) (.ite (addContent_keepsClock _ _ s)
      (.ite (discardContent_keepsClock _ s) (discardContent_keepsClock _ s)))

theorem receiveByte_keepsClock (b : Byte) (s : State) : KeepsClock s (receiveByte s b) :=
  (byteEffect_keepsClock b s).trans (settle_keepsClock _)

theorem takeSamples_keepsClock (due : Nat → Bool) (n : Nat) (s : State) : KeepsClock s (takeSamples due n s) := by
  rcases takeSamples_frame due n s with ⟨x, h⟩ | ⟨b, h⟩ | h
  · rw [h]; exact ⟨rfl, rfl, rfl⟩
  · rw [h]; exact (byteEffect_keepsClock b _).from_eq rfl rfl rfl
  · rw [h]; exact (takeLineError_keepsClock _).from_eq rfl rfl rfl

theorem takeContent_keepsClock (c : TrunkContent) (s : State) : KeepsClock s (takeContent c s) := by
  cases c with
  | fault f => exact discardContent_keepsClock f s
  | bytes bs =>
    show KeepsClock s (bs.foldl receiveByte s)
    induction bs generalizing s with
    | nil => exact .refl s
    | cons b bs ih => exact (receiveByte_keepsClock b s).trans (ih _)
  | edge rising time =>
    obtain ⟨x, h⟩ := trunkEdge_frame rising time s
    show KeepsClock s (trunkEdge rising time s)
    rw [h]
    exact (takeSamples_keepsClock _ _ s).trans ⟨rfl, rfl, rfl⟩
  | quiet time => exact takeSamples_keepsClock _ _ s

theorem frameArrives_keepsClock (kind tag : Byte) (body : List Byte) (s : State) :
    KeepsClock s (frameArrives kind tag body s) := by
  have hopening : KeepsClock s (openingDelimiter s) := by
    unfold openingDelimiter
    split
    case h_1 | h_2 => exact ⟨rfl, rfl, rfl⟩
    all_goals exact receiveByte_keepsClock _ s
  exact hopening.trans (receiveFrame_keepsClock _ _ _ _)

/-! ### Sessions -/

theorem closeSession_keepsClock (s : State) : KeepsClock s (closeSession s) := by
  obtain ⟨_, _, _, _, _, _, _, _, _, _, h⟩ := closeSession_frame s
  rw [h]
  exact ⟨rfl, rfl, rfl⟩

theorem engineReleased_keepsClock (s : State) : KeepsClock s (engineReleased s) := by
  unfold engineReleased
  split
  · exact .refl s
  · exact ⟨rfl, rfl, rfl⟩
  · obtain ⟨_, _, _, _, _, _, _, _, _, _, _, _, _, h⟩ := warmRestart_frame s
    rw [h]
    exact ⟨rfl, rfl, rfl⟩

theorem idleTimeout_keepsClock (s : State) : KeepsClock s (idleTimeout s) := by
  have hout : KeepsClock s (timedOut s) := (closeSession_keepsClock s).trans ⟨rfl, rfl, rfl⟩
  exact .ite (hout.trans (engineReleased_keepsClock _)) hout

theorem frameEnds_keepsClock (s : State) : KeepsClock s (frameEnds s) := by
  have hrests : KeepsClock s { s with trk.line := none } := ⟨rfl, rfl, rfl⟩
  unfold frameEnds
  split
  · exact .refl s
  · dsimp only
    split
    · exact .ite (hrests.trans ((closeSession_keepsClock _).trans (engineReleased_keepsClock _))) hrests
    all_goals exact hrests

/-! ## The end of every command -/

/-- A command carried out in `s` answers a next state: it has left the queue as it was, and a part that then takes
events has closed this one. -/
def EndsSettled (s : State) (o : Host.Outcome State Fault Refusal) : Prop :=
  ∃ t, o = .next t ∧ t.pending = s.pending ∧ (Running t → Settled t)

/-- R151, R161: an event whose effect leaves the queue as it is. -/
theorem event_endsSettled {f : State → State} (hf : ∀ s, (f s).pending = s.pending) (s : State) :
    EndsSettled s (event f s) := by
  refine ⟨_, rfl, ?_⟩
  split
  · exact ⟨(settle_keepsClock _).queue.trans (hf s), fun _ => settle_settled _⟩
  · exact ⟨rfl, fun hrun => absurd (takesEvents_iff.mpr hrun) ‹_›⟩

theorem event_endsSettled_of_keeps {f : State → State} (hf : ∀ s, KeepsClock s (f s)) (s : State) :
    EndsSettled s (event f s) :=
  event_endsSettled (fun u => (hf u).queue) s

/-- R197: after a full reset nothing is held and nothing is to be sent. -/
theorem afterReset_settled (a b : Bool) (queue : List Instr) : Settled (State.afterReset a b queue) :=
  ⟨.inl rfl, .inr ⟨rfl, rfl, rfl⟩⟩

/-- The commands of the field receivers. -/
theorem receiverCommands_endSettled (s : State) :
    (∀ ch, EndsSettled s (execPreambleLost ch s)) ∧
      (∀ ch, EndsSettled s (execSyncMissing ch s)) ∧
      (∀ ch e, EndsSettled s (execReceiverError ch e s)) ∧
      ∀ c, EndsSettled s (execCopy c s) := by
  refine ⟨fun ch => ?_, fun ch => ?_, fun ch e => event_endsSettled_of_keeps (fun u => ?_) s,
    fun c => event_endsSettled_of_keeps (fun u => ?_) s⟩
  · show EndsSettled s (exec (.preambleLost ch) s)
    rw [exec_preambleLost]
    exact event_endsSettled_of_keeps (fun u => .ite (losePreamble_keepsClock _ u) (.refl u)) s
  · show EndsSettled s (exec (.syncMissing ch) s)
    rw [exec_syncMissing]
    exact event_endsSettled_of_keeps (fun u => .ite (missSync_keepsClock _ u) (.refl u)) s
  · exact .ite (bodyError_keepsClock _ _ u) (.refl u)
  · exact .ite (.refl u) (.ite (handOver_keepsClock _ u) (bodyError_keepsClock _ _ u))

/-- CELL_DECODED: the cells, edges and quiet lines of a channel, and REFCLK. -/
theorem cellDecoded_endsSettled (ch : Channel) (input : CellInput) (s : State) :
    EndsSettled s (execCellDecoded ch input s) := by
  cases input with
  | decided bit soft time => exact event_endsSettled_of_keeps (decodedCell_keepsClock ch bit soft time) s
  | edge rising time => exact event_endsSettled_of_keeps (lineEdge_keepsClock ch rising time) s
  | quiet time => exact event_endsSettled_of_keeps (lineQuiet_keepsClock ch time) s
  | refclk running =>
    cases running with
    | false => exact ⟨_, rfl, rfl, fun ⟨_, hclock⟩ => Bool.noConfusion hclock⟩
    | true =>
      refine ⟨startRefclk s, rfl, ?_⟩
      cases hreset : s.inReset with
      | false =>
        rw [startRefclk_running hreset]
        exact ⟨(settle_keepsClock _).queue, fun _ => settle_settled _⟩
      | true =>
        rw [startRefclk_held hreset]
        split
        · exact ⟨rfl, fun _ => afterReset_settled _ _ _⟩
        · exact ⟨rfl, fun ⟨hrun, _⟩ => Bool.noConfusion (hreset.symm.trans hrun)⟩

/-- The deadlines of records and slots. -/
theorem deadlineCommands_endSettled (s : State) :
    (∀ id q, EndsSettled s (execGatherDeadline id q s)) ∧
      (∀ id q, EndsSettled s (execSettleDeadline id q s)) ∧
      (∀ i, EndsSettled s (execWindowOpen i s)) ∧
      (∀ i, EndsSettled s (execWindowClose i s)) ∧
      ∀ i, EndsSettled s (execLifetimeDeadline i s) := by
  refine ⟨fun id q => event_endsSettled_of_keeps (fun u => ?_) s,
    fun id q => event_endsSettled_of_keeps (fun u => ?_) s, fun i => event_endsSettled_of_keeps (fun u => ?_) s,
    fun i => event_endsSettled_of_keeps (fun u => ?_) s, fun i => event_endsSettled_of_keeps (fun u => ?_) s⟩
  · split
    · exact .refl u
    · split
      · exact .refl u
      · exact .ite (closeRecord_keepsClock _ _ u) (.refl u)
  · split
    · exact .refl u
    · refine .ite ?_ (.refl u)
      exact (KeepsClock.ite (closeRecord_keepsClock _ _ u) (.refl u)).trans ⟨rfl, rfl, rfl⟩
  · split
    · refine .ite ?_ (.refl u)
      rw [offerSlot_frame]
      exact ⟨rfl, rfl, rfl⟩
    all_goals exact .refl u
  · split
    · refine .ite ?_ (.refl u)
      rw [missWindow_frame]
      exact ⟨rfl, rfl, rfl⟩
    all_goals exact .refl u
  · split
    case h_4 | h_5 | h_6 => exact .refl u
    all_goals exact .ite ⟨rfl, rfl, rfl⟩ (.refl u)

/-- The ends of what the transmitter does. -/
theorem transmitterCommands_endSettled (s : State) :
    (EndsSettled s (execTransmissionEnd s)) ∧
      (EndsSettled s (execTestEnd s)) ∧
      EndsSettled s (execStoppingEnd s) := by
  refine ⟨event_endsSettled_of_keeps (fun u => ?_) s, event_endsSettled_of_keeps (fun u => ?_) s,
    event_endsSettled_of_keeps (fun u => ?_) s⟩
  · split
    · refine .ite (.refl u) (KeepsClock.trans ?_ (arbiter_keepsClock _))
      exact (takeTransmissionEnd_keepsClock _ _).from_eq rfl rfl rfl
    all_goals exact .refl u
  · split
    · exact .ite (endTest_frame u).keepsClock (.refl u)
    all_goals exact .refl u
  · split
    · exact (endTest_frame u).keepsClock
    all_goals exact .refl u

/-- The deadlines of the stream, the session and the alarm block. -/
theorem trunkDeadlines_endSettled (s : State) :
    (EndsSettled s (execRetransmitTimerExpiry s)) ∧
      (EndsSettled s (execIdleDeadline s)) ∧
      (EndsSettled s (execRenotifyDeadline s)) ∧
      EndsSettled s (execPerSecondBoundary s) := by
  refine ⟨event_endsSettled_of_keeps (fun u => ?_) s, event_endsSettled_of_keeps (fun u => ?_) s,
    event_endsSettled_of_keeps (fun u => ?_) s, event_endsSettled_of_keeps (fun u => ?_) s⟩
  · split
    · refine .ite ?_ (.refl u)
      obtain ⟨_, _, _, _, h⟩ := timerExpires_frame u
      rw [h]
      exact ⟨rfl, rfl, rfl⟩
    · exact .refl u
  · split
    · exact .ite (idleTimeout_keepsClock u) (.refl u)
    all_goals exact .refl u
  · refine .ite ?_ (.refl u)
    rw [joinAllNotices_frame]
    exact ⟨rfl, rfl, rfl⟩
  · exact .ite ⟨rfl, rfl, rfl⟩ (.refl u)

/-- Settles O5, command by command: each is an event whose effect leaves the queue, or begins or ends a reset or a
pause of REFCLK. -/
theorem everyCommandEndsSettled : Obligations.EveryCommandEndsSettled := by
  intro c s
  obtain ⟨hpreamble, hsync, herror, hcopy⟩ := receiverCommands_endSettled s
  obtain ⟨hgather, hsettle, hopen, hclose, hlife⟩ := deadlineCommands_endSettled s
  obtain ⟨hsent, htest, hstop⟩ := transmitterCommands_endSettled s
  obtain ⟨htimer, hidle, hrenotify, hsecond⟩ := trunkDeadlines_endSettled s
  cases c
  case fullReset => exact ⟨_, rfl, rfl, fun ⟨hrun, _⟩ => Bool.noConfusion hrun⟩
  case fullResetEnd a b =>
    refine ⟨_, rfl, ?_⟩
    cases hclock : s.tbs.refclkRunning with
    | true => exact ⟨rfl, fun _ => afterReset_settled a b _⟩
    | false =>
      rw [if_neg Bool.false_ne_true]
      split
      all_goals exact ⟨rfl, fun ⟨_, hrun⟩ => Bool.noConfusion (hclock.symm.trans hrun)⟩
  case preambleLost ch => exact hpreamble ch
  case syncMissing ch => exact hsync ch
  case receiverError ch e => exact herror ch e
  case copy c => exact hcopy c
  case cellDecoded ch input => exact cellDecoded_endsSettled ch input s
  case gatherDeadline id q => exact hgather id q
  case settleDeadline id q => exact hsettle id q
  case windowOpen i => exact hopen i
  case windowClose i => exact hclose i
  case lifetimeDeadline i => exact hlife i
  case transmissionEnd => exact hsent
  case testEnd => exact htest
  case stoppingEnd => exact hstop
  case retransmitTimerExpiry => exact htimer
  case idleDeadline => exact hidle
  case renotifyDeadline => exact hrenotify
  case perSecondBoundary => exact hsecond
  case partTimeAdvance =>
    exact event_endsSettled (f := fun u => { u with tbs.partTime := u.tbs.partTime + 1 }) (fun _ => rfl) s
  case frameBoundary => exact event_endsSettled_of_keeps frameEnds_keepsClock s
  case lineError => exact event_endsSettled_of_keeps takeLineError_keepsClock s
  case discardedContent c => exact event_endsSettled_of_keeps (takeContent_keepsClock c) s
  all_goals exact event_endsSettled_of_keeps (frameArrives_keepsClock _ _ _) s

end Sys2Proof.Machine

/-! Bytes on TRXD (sections 8.1 and 8.2): what each byte does, the contents that a run of bytes spells, and the
bytes on TTXD (R146–R149, R157, R161, R202). -/

namespace Sys2Proof.Machine

/-! ## The assembler and the rest of the part -/

/-- The sampler and the assembler of the trunk receiver are these. -/
def setTrunkRx (x : TrunkSampler) (a : Assembler) (s : State) : State :=
  { s with trk.sampler := x, trk.assembler := a }

/-- The assembler is this. -/
def setAssembler (a : Assembler) (s : State) : State := { s with trk.assembler := a }

theorem setAssembler_eq (a : Assembler) (s : State) : setAssembler a s = setTrunkRx s.trk.sampler a s := rfl

@[simp] theorem setAssembler_trk_assembler (a : Assembler) (s : State) : (setAssembler a s).trk.assembler = a := rfl
@[simp] theorem setAssembler_setAssembler (a b : Assembler) (s : State) :
    setAssembler a (setAssembler b s) = setAssembler a s := rfl

theorem setAssembler_same {a : Assembler} {s : State} (h : s.trk.assembler = a) : setAssembler a s = s := by
  subst h; rfl

theorem newContent_eq (s : State) : newContent s = setAssembler (.collecting [] false) s := rfl

/-- Whether an event is closed does not depend on the assembler. -/
theorem settled_setAssembler {s : State} (hs : Settled s) (a : Assembler) : Settled (setAssembler a s) := hs

theorem settle_setAssembler {s : State} (hs : Settled s) (a : Assembler) :
    settle (setAssembler a s) = setAssembler a s :=
  settle_of_closed (settled_setAssembler hs a)

/-- R120: a stream frame does not depend on the trunk receiver. -/
theorem sendStream_setTrunkRx (x : TrunkSampler) (a : Assembler) (s : State) :
    sendStream (setTrunkRx x a s) = setTrunkRx x a (sendStream s) := by
  have hsend : streamSend (setTrunkRx x a s) = (streamSend s).map fun y => (y.1, setTrunkRx x a y.2) := by
    unfold streamSend setTrunkRx
    cases s.dst.window.find? SentItem.resendPending with
    | some w => simp only [Option.map_some, startTimer_eq]; rfl
    | none =>
      cases s.dst.waiting with
      | nil => rfl
      | cons it rest => simp only [Option.map_some, startTimer_eq]; rfl
  unfold sendStream
  rw [hsend]
  cases streamSend s <;> rfl

/-- R162: the sender's choice does not depend on the trunk receiver. -/
theorem takeFrame_setTrunkRx (x : TrunkSampler) (a : Assembler) (s : State) :
    takeFrame (setTrunkRx x a s) = setTrunkRx x a (takeFrame s) := by
  have heligible : streamEligible (setTrunkRx x a s) = streamEligible s := rfl
  have hwait : (setTrunkRx x a s).trk.streamWait = s.trk.streamWait := rfl
  have hresponses : (setTrunkRx x a s).trk.responses = s.trk.responses := rfl
  have hnotice : lowestNotice (setTrunkRx x a s) = lowestNotice s := rfl
  unfold takeFrame
  rw [heligible, hwait, hresponses, hnotice, sendStream_setTrunkRx]
  cases streamEligible s && decide (3 ≤ s.trk.streamWait) with
  | true => rfl
  | false =>
    cases s.trk.responses with
    | cons q rest => rfl
    | nil =>
      cases lowestNotice s with
      | some c => rfl
      | none => exact (apply_ite (setTrunkRx x a) _ _ _).symm

theorem senderDecides_setTrunkRx (x : TrunkSampler) (a : Assembler) (s : State) :
    senderDecides (setTrunkRx x a s) = setTrunkRx x a (senderDecides s) := by
  cases hl : s.trk.line with
  | some f => rw [senderDecides_of_busy hl, senderDecides_of_busy (s := setTrunkRx x a s) hl]
  | none =>
    rw [senderDecides_of_idle hl, senderDecides_of_idle (s := setTrunkRx x a s) hl, takeFrame_setTrunkRx]

/-- After an event that brings no request, a change of the trunk receiver and the closing come to the same in either
order. -/
theorem settle_setTrunkRx {s t : State} (hs : Settled s) (h : KeepsRequests s t) (x : TrunkSampler)
    (a : Assembler) : settle (setTrunkRx x a t) = setTrunkRx x a (settle t) := by
  have hset : KeepsRequests s (setTrunkRx x a t) := h.trans ⟨rfl, rfl, rfl, rfl, rfl, rfl⟩
  rw [settle_of_keepsRequests hs hset, settle_of_keepsRequests hs h, senderDecides_setTrunkRx]

/-- R151, R161: the closing of an event leaves the trunk receiver as it is. -/
theorem settle_trunkRx (s : State) :
    (settle s).trk.assembler = s.trk.assembler ∧ (settle s).trk.sampler = s.trk.sampler := by
  have hintakes : ∀ n t, (intakes n t).trk.assembler = t.trk.assembler ∧
      (intakes n t).trk.sampler = t.trk.sampler := by
    intro n
    induction n with
    | zero => exact fun t => ⟨rfl, rfl⟩
    | succ n ih =>
      intro t
      unfold intakes
      split
      · exact ⟨rfl, rfl⟩
      · rename_i q rest _
        split
        · obtain ⟨_, _, ⟨_, _, _, _, _, _, _, _, _, _, _, _, _, _, _, _, _, rfl⟩, h⟩ :=
            takeIn_frame q { t with trk.held := rest }
          rw [h]
          exact ih _
        · exact ⟨rfl, rfl⟩
  obtain ⟨_, _, _, _, _, _, _, _, _, _, _, _, hd⟩ := senderDecides_frame (intakeAll s)
  have hdecides : (senderDecides (intakeAll s)).trk.assembler = (intakeAll s).trk.assembler ∧
      (senderDecides (intakeAll s)).trk.sampler = (intakeAll s).trk.sampler := by
    rw [hd]; exact ⟨rfl, rfl⟩
  exact ⟨((hintakes _ _).1.trans hdecides.1).trans (hintakes _ _).1,
    ((hintakes _ _).2.trans hdecides.2).trans (hintakes _ _).2⟩

/-! ## One byte -/

/-- R148: in HUNT only a delimiter counts. -/
theorem byteEffect_hunt {s : State} (h : s.trk.assembler = .hunt) (b : Byte) :
    byteEffect b s = if b = 0xA5 then newContent s else s := by
  simp only [byteEffect, h]

/-- R148: a byte while a content is collected. -/
theorem byteEffect_collecting {s : State} {c : List Byte} (h : s.trk.assembler = .collecting c false) (b : Byte) :
    byteEffect b s = if b = 0xA5 then endContent c s
      else if b = 0xA6 then setAssembler (.collecting c true) s else addContent c b s := by
  simp only [byteEffect, h]
  rfl

/-- R147, R148: the byte after an escape. -/
theorem byteEffect_escaped {s : State} {c : List Byte} (h : s.trk.assembler = .collecting c true) (b : Byte) :
    byteEffect b s = if b = 0x85 then addContent c 0xA5 s else if b = 0x86 then addContent c 0xA6 s
      else if b = 0xA5 then discardContent .badEscapeDelimiter s else discardContent .badEscape s := by
  simp only [byteEffect, h]

theorem addContent_within {c : List Byte} (h : c.length < 84) (b : Byte) (s : State) :
    addContent c b s = setAssembler (.collecting (c ++ [b]) false) s :=
  if_neg (Nat.not_le.mpr h)

theorem addContent_oversize {c : List Byte} (h : 84 ≤ c.length) (b : Byte) (s : State) :
    addContent c b s = discardContent .oversize s :=
  if_pos h

/-- R148: a content of one to three bytes is a runt. -/
theorem endContent_runt {c : List Byte} (hone : 1 ≤ c.length) (hthree : c.length ≤ 3) (s : State) :
    endContent c s = discardContent .runt s := by
  match c with
  | [_] => rfl
  | kind :: tag :: rest => exact if_pos (Nat.lt_succ_of_le hthree)

theorem be16_inj {v w : Word16} (h : be16 v.toNat = be16 w.toNat) : v = w := by
  simp only [be16, List.cons.injEq, and_true] at h
  obtain ⟨hhigh, hlow⟩ := h
  rw [← BitVec.toNat_inj, ← num16_be16 v, ← num16_be16 w, hhigh, hlow]

/-- R148: a content of four bytes or more is a frame when its check is right. -/
theorem endContent_frame (kind tag : Byte) (body : List Byte) (check : Word16) (s : State) :
    endContent (kind :: tag :: (body ++ be16 check.toNat)) s =
      if check = frameCheck (kind :: tag :: body) then receiveFrame kind tag body s
      else discardContent .badCheck s := by
  have hlength : (body ++ be16 check.toNat).length - 2 = body.length := by simp [be16]
  have hlong : ¬ (kind :: tag :: (body ++ be16 check.toNat)).length < 4 := by simp [be16]
  have hcheck : be16 (frameCheck (kind :: tag :: body)).toNat = be16 check.toNat ↔
      check = frameCheck (kind :: tag :: body) :=
    ⟨fun h => (be16_inj h).symm, fun h => by rw [h]⟩
  simp only [endContent, if_neg hlong, hlength, List.take_left, List.drop_left, hcheck]

/-- R149: a frame is judged alike whatever the assembler held. -/
theorem receiveFrame_setAssembler (kind tag : Byte) (body : List Byte) (a : Assembler) (s : State) :
    receiveFrame kind tag body (setAssembler a s) = receiveFrame kind tag body s := rfl

theorem discardContent_setAssembler (f : ContentFault) (a : Assembler) (s : State) :
    discardContent f (setAssembler a s) = discardContent f s := rfl

/-- R148, R149: a judged frame leaves the assembler collecting a new content. -/
theorem receiveFrame_assembler (kind tag : Byte) (body : List Byte) (s : State) :
    (receiveFrame kind tag body s).trk.assembler = .collecting [] false := by
  have hcounted : (counted s).trk.assembler = .collecting [] false := by
    obtain ⟨_, h⟩ := counted_frame s
    rw [h]
  unfold receiveFrame
  split
  · rfl
  · split
    · split
      · obtain ⟨_, _, h⟩ := takeAck_frame tag (counted s)
        exact (congrArg (·.trk.assembler) h).trans hcounted
      · rfl
    · split
      · change (holdRequest tag body (counted s)).trk.assembler = _
        unfold holdRequest
        split
        · exact hcounted
        · rw [raise_frame]; exact hcounted
      · rfl

theorem discardContent_assembler (f : ContentFault) (s : State) :
    (discardContent f s).trk.assembler = assemblerAfter f := by
  unfold discardContent
  rw [raise_frame]

/-- R148: a delimiter leaves the assembler collecting a new content, whatever it ends. -/
theorem byteEffect_delimiter_assembler (s : State) : (byteEffect 0xA5 s).trk.assembler = .collecting [] false := by
  cases h : s.trk.assembler with
  | hunt => rw [byteEffect_hunt h, if_pos rfl]; rfl
  | collecting c escaped =>
    cases escaped with
    | true =>
      rw [byteEffect_escaped h, if_neg (by decide), if_neg (by decide), if_pos rfl]
      exact discardContent_assembler _ s
    | false =>
      rw [byteEffect_collecting h, if_pos rfl]
      unfold endContent
      split
      · rfl
      · split
        · exact discardContent_assembler _ s
        · dsimp only
          split
          · exact receiveFrame_assembler _ _ _ s
          · exact discardContent_assembler _ s
      · exact discardContent_assembler _ s

/-! ## Runs of bytes -/

theorem receiveByte_resting {s : State} (hs : Resting s) (b : Byte) : Resting (receiveByte s b) :=
  ⟨(receiveByte_keepsClock b s).running hs.1, settle_settled _⟩

/-- R148: at a resting part the bytes act one after another, and each closes its own event. -/
theorem exec_bytes {s : State} (hs : Resting s) (bs : List Byte) :
    exec (.discardedContent (.bytes bs)) s = .next (bs.foldl receiveByte s) := by
  have hsettled : Settled (bs.foldl receiveByte s) := by
    have hsettled := hs.2
    clear hs
    induction bs generalizing s with
    | nil => exact hsettled
    | cons b bs ih => exact ih (settle_settled _)
  refine (event_running hs.1 _).trans ?_
  exact congrArg _ (settle_of_closed hsettled)

theorem exec_byte {s : State} (hs : Resting s) (b : Byte) :
    exec (.discardedContent (.bytes [b])) s = .next (settle (byteEffect b s)) :=
  exec_bytes hs [b]

theorem exec_fault {s : State} (hs : Running s) (f : ContentFault) :
    exec (.discardedContent (.fault f)) s = .next (settle (discardContent f s)) :=
  event_running hs _

/-- A byte that moves the assembler alone, at a settled part. -/
theorem receiveByte_assembles {s : State} {a : Assembler} {b : Byte} (hs : Settled s)
    (h : byteEffect b s = setAssembler a s) : receiveByte s b = setAssembler a s := by
  rw [receiveByte, h, settle_setAssembler hs]

/-- R148: an opening delimiter on a clean assembler. -/
theorem receiveByte_opening {s : State} (hs : Settled s)
    (hclean : s.trk.assembler = .hunt ∨ s.trk.assembler = .collecting [] false) :
    receiveByte s 0xA5 = newContent s := by
  refine receiveByte_assembles hs ?_
  rcases hclean with h | h
  · rw [byteEffect_hunt h, if_pos rfl]; rfl
  · rw [byteEffect_collecting h, if_pos rfl]; rfl

/-- R147: a delimiter and an escape in a content are sent as two bytes. -/
theorem escapeByte_eq (b : Byte) :
    escapeByte b = if b = 0xA5 then [0xA6, 0x85] else if b = 0xA6 then [0xA6, 0x86] else [b] := by
  unfold escapeByte
  by_cases hdelimiter : b = 0xA5
  · subst hdelimiter; rfl
  by_cases hmark : b = 0xA6
  · subst hmark; rfl
  · rw [if_neg (not_or.mpr ⟨hdelimiter, hmark⟩), if_neg hdelimiter, if_neg hmark]

/-- R147: an escape moves the assembler alone. -/
theorem receiveByte_escape {s : State} (hs : Settled s) (c : List Byte) :
    receiveByte (setAssembler (.collecting c false) s) 0xA6 = setAssembler (.collecting c true) s :=
  receiveByte_assembles (settled_setAssembler hs _) (byteEffect_collecting rfl _)

/-- R147, R148: one content byte as sent joins the content with its escaping undone. -/
theorem received_escapeByte_adds {s : State} (hs : Settled s) (c : List Byte) (b : Byte) :
    (escapeByte b).foldl receiveByte (setAssembler (.collecting c false) s) =
      settle (addContent c b (setAssembler (.collecting c (b = 0xA5 ∨ b = 0xA6)) s)) := by
  rw [escapeByte_eq]
  by_cases hdelimiter : b = 0xA5
  · subst hdelimiter
    rw [if_pos rfl, List.foldl_cons, List.foldl_cons, List.foldl_nil, receiveByte_escape hs, receiveByte,
      byteEffect_escaped rfl, if_pos rfl]
    rfl
  by_cases hmark : b = 0xA6
  · subst hmark
    rw [if_neg hdelimiter, if_pos rfl, List.foldl_cons, List.foldl_cons, List.foldl_nil, receiveByte_escape hs,
      receiveByte, byteEffect_escaped rfl, if_neg (by decide), if_pos rfl]
    rfl
  · rw [if_neg hdelimiter, if_neg hmark, List.foldl_cons, List.foldl_nil, receiveByte, byteEffect_collecting rfl,
      if_neg hdelimiter, if_neg hmark, decide_eq_false (not_or.mpr ⟨hdelimiter, hmark⟩)]

theorem received_escapeByte {s : State} {c : List Byte} (hs : Settled s) (h : c.length < 84) (b : Byte) :
    (escapeByte b).foldl receiveByte (setAssembler (.collecting c false) s) =
      setAssembler (.collecting (c ++ [b]) false) s := by
  rw [received_escapeByte_adds hs, addContent_within h, setAssembler_setAssembler, settle_setAssembler hs]

/-- R148: the 85th content byte is one too many. -/
theorem received_escapeByte_oversize {s : State} {c : List Byte} (hs : Settled s) (h : 84 ≤ c.length) (b : Byte) :
    (escapeByte b).foldl receiveByte (setAssembler (.collecting c false) s) =
      settle (discardContent .oversize s) := by
  rw [received_escapeByte_adds hs, addContent_oversize h, discardContent_setAssembler]

/-- R147, R148: escaped content is collected with its escaping undone, up to 84 bytes. -/
theorem received_content {s : State} (hs : Settled s) (content c : List Byte)
    (h : c.length + content.length ≤ 84) :
    (content.flatMap escapeByte).foldl receiveByte (setAssembler (.collecting c false) s) =
      setAssembler (.collecting (c ++ content) false) s := by
  induction content generalizing c with
  | nil => rw [List.append_nil]; rfl
  | cons b content ih =>
    rw [List.length_cons] at h
    rw [List.flatMap_cons, List.foldl_append, received_escapeByte hs (by omega), ih _ (by simp; omega),
      List.append_assoc]
    rfl

/-- R148: in HUNT bytes other than a delimiter are passed over. -/
theorem received_hunt {s : State} (hs : Settled s) (h : s.trk.assembler = .hunt) {bs : List Byte}
    (hbs : 0xA5 ∉ bs) : bs.foldl receiveByte s = s := by
  induction bs with
  | nil => rfl
  | cons b bs ih =>
    rw [List.mem_cons, not_or] at hbs
    obtain ⟨hb, hrest⟩ := hbs
    rw [List.foldl_cons, receiveByte, byteEffect_hunt h, if_neg (Ne.symm hb), settle_of_closed hs, ih hrest]

/-- R147: an escaped content holds no delimiter. -/
theorem delimiter_not_mem_escaped (content : List Byte) : 0xA5 ∉ content.flatMap escapeByte := by
  rw [List.mem_flatMap]
  rintro ⟨b, -, hb⟩
  unfold escapeByte at hb
  split at hb
  · rename_i h
    rcases h with rfl | rfl <;> exact absurd hb (by decide)
  · rename_i h
    exact h (.inl (List.mem_singleton.mp hb).symm)

/-- R148: a content of more than 84 bytes is discarded at its 85th, and the rest of it is passed over. -/
theorem received_oversize {s : State} (hs : Settled s) {content : List Byte} (h : 84 < content.length) :
    (content.flatMap escapeByte).foldl receiveByte (newContent s) = settle (discardContent .oversize s) := by
  have hfirst : (content.take 84).length = 84 := List.length_take_of_le (Nat.le_of_lt h)
  obtain ⟨b, rest, hrest⟩ : ∃ b rest, content.drop 84 = b :: rest :=
    List.exists_cons_of_length_pos (by rw [List.length_drop]; omega)
  have hsplit : content.flatMap escapeByte =
      (content.take 84).flatMap escapeByte ++ (escapeByte b ++ rest.flatMap escapeByte) := by
    rw [← List.flatMap_cons, ← hrest, ← List.flatMap_append, List.take_append_drop]
  have hhunt : (settle (discardContent .oversize s)).trk.assembler = .hunt :=
    (settle_trunkRx _).1.trans (discardContent_assembler _ s)
  rw [hsplit, List.foldl_append, List.foldl_append, newContent_eq,
    received_content hs _ [] (by simp [hfirst]), received_escapeByte_oversize hs (by simp [hfirst]),
    received_hunt (settle_settled _) hhunt (delimiter_not_mem_escaped rest)]

/-! ## Frames as bytes -/

/-- R148, R149: the frame of a command that finds the assembler clean. -/
theorem event_frame {s : State} (hs : Running s)
    (hclean : s.trk.assembler = .hunt ∨ s.trk.assembler = .collecting [] false) (kind tag : Byte)
    (body : List Byte) : event (frameArrives kind tag body) s = .next (settle (receiveFrame kind tag body s)) := by
  rw [event_running hs, frameArrives_clean hclean]
  rfl

theorem discardContent_keepsRequests (f : ContentFault) (s : State) : KeepsRequests s (discardContent f s) := by
  unfold discardContent
  rw [raise_frame]
  exact ⟨rfl, rfl, rfl, rfl, rfl, rfl⟩

/-- R148: what an oversize frame comes to: its content is discarded, and its closing delimiter begins a new one. -/
theorem settle_oversizeFrame {s : State} (hs : Settled s) (kind tag : Byte) {body : List Byte}
    (hbody : 80 < body.length) : settle (receiveFrame kind tag body s) =
      setAssembler (.collecting [] false) (settle (discardContent .oversize s)) := by
  rw [receiveFrame, if_pos hbody, newContent_eq, setAssembler_eq,
    settle_setTrunkRx hs (discardContent_keepsRequests _ s), setAssembler_eq, (settle_trunkRx _).2]

/-- R147, R148, R202: the bytes of a frame on a clean assembler are its arrival. -/
theorem exec_frameBytes {s : State} (hs : Resting s)
    (hclean : s.trk.assembler = .hunt ∨ s.trk.assembler = .collecting [] false) (kind tag : Byte)
    (body : List Byte) : exec (.discardedContent (.bytes (onLine (withFrameCheck (kind :: tag :: body))))) s =
      event (frameArrives kind tag body) s := by
  have hlength : (withFrameCheck (kind :: tag :: body)).length = body.length + 4 := by
    simp [withFrameCheck, be16]
  rw [exec_bytes hs, event_frame hs.1 hclean]
  refine congrArg _ ?_
  rw [onLine, List.foldl_append, List.foldl_append, List.foldl_cons, List.foldl_nil, List.foldl_cons,
    List.foldl_nil, receiveByte_opening hs.2 hclean]
  by_cases hbody : body.length ≤ 80
  · rw [newContent_eq, received_content hs.2 _ [] (by simp only [List.length_nil, hlength]; omega), List.nil_append,
      receiveByte, byteEffect_collecting rfl, if_pos rfl]
    show settle (endContent (kind :: tag :: (body ++ be16 (frameCheck (kind :: tag :: body)).toNat)) _) = _
    rw [endContent_frame, if_pos rfl, receiveFrame_setAssembler]
  · have hhunt : (settle (discardContent .oversize s)).trk.assembler = .hunt :=
      (settle_trunkRx _).1.trans (discardContent_assembler _ s)
    rw [received_oversize hs.2 (by omega), receiveByte_opening (settle_settled _) (.inl hhunt),
      settle_oversizeFrame hs.2 kind tag (by omega)]
    rfl

/-- R148: at a settled part the opening delimiter of a frame is the byte of a delimiter. -/
theorem openingDelimiter_eq {s : State} (hs : Settled s) : openingDelimiter s = receiveByte s 0xA5 := by
  unfold openingDelimiter
  split
  · exact (receiveByte_opening hs (.inl ‹_›)).symm
  · exact (receiveByte_opening hs (.inr ‹_›)).symm
  all_goals rfl

theorem receiveByte_delimiter_assembler (s : State) :
    (receiveByte s 0xA5).trk.assembler = .collecting [] false :=
  (settle_trunkRx _).1.trans (byteEffect_delimiter_assembler s)

/-- R148: a frame on any assembler is a delimiter, followed by the frame on the new, empty content. -/
theorem event_frame_afterDelimiter {s : State} (hs : Resting s) (kind tag : Byte) (body : List Byte) :
    event (frameArrives kind tag body) s = event (frameArrives kind tag body) (receiveByte s 0xA5) := by
  rw [event_frame (receiveByte_resting hs _).1 (.inr (receiveByte_delimiter_assembler s)), event_running hs.1,
    frameArrives, openingDelimiter_eq hs.2]

/-! ## The bytes on TTXD -/

/-- R147, R161: the bytes of a frame whose content is known. -/
theorem lineBytes_eq (f : FrameContent) {content : List Byte} (h : f.kindTagBody = content) :
    f.lineBytes = [0xA5] ++ (content ++ be16 (frameCheck content).toNat).flatMap (fun b =>
      if b = 0xA5 then [0xA6, 0x85] else if b = 0xA6 then [0xA6, 0x86] else [b]) ++ [0xA5] := by
  rw [FrameContent.lineBytes, h, onLine, withFrameCheck, funext escapeByte_eq]

/-! ## Single bytes at a resting part -/

/-- R148: a byte that leads where a fault leads. -/
theorem exec_byte_fault {s : State} {b : Byte} {f : ContentFault} (hs : Resting s)
    (h : byteEffect b s = discardContent f s) :
    exec (.discardedContent (.bytes [b])) s = exec (.discardedContent (.fault f)) s := by
  rw [exec_byte hs, exec_fault hs.1, h]

/-- R148: a byte that moves the assembler alone. -/
theorem exec_byte_assembles {s : State} {b : Byte} {a : Assembler} (hs : Resting s)
    (h : byteEffect b s = setAssembler a s) :
    exec (.discardedContent (.bytes [b])) s = .next (setAssembler a s) := by
  rw [exec_byte hs, h, settle_setAssembler hs.2]

/-- R148, R149: a delimiter that ends a frame is the arrival of that frame on an empty content. -/
theorem exec_byte_frame {s : State} {kind tag : Byte} {body : List Byte} (hs : Resting s)
    (h : byteEffect 0xA5 s = receiveFrame kind tag body s) :
    exec (.discardedContent (.bytes [0xA5])) s =
      event (frameArrives kind tag body) (setAssembler (.collecting [] false) s) := by
  rw [exec_byte hs, h, event_frame (s := setAssembler (.collecting [] false) s) hs.1 (.inr rfl)]
  rfl

/-- R148: a byte while a content is collected, row by row. -/
theorem exec_byte_collecting {s : State} {c : List Byte} (hs : Resting s)
    (h : s.trk.assembler = .collecting c false) (b : Byte) :
    let one := exec (.discardedContent (.bytes [b])) s
    let at' (a : Assembler) : State := setAssembler a s
    let fault (f : ContentFault) := exec (.discardedContent (.fault f)) s
    (b = 0xA5 → c = [] → one = .next s) ∧
      (b = 0xA5 → 1 ≤ c.length → c.length ≤ 3 → one = fault .runt) ∧
      (∀ (kind tag : Byte) (body : List Byte) (check : Word16), b = 0xA5 →
        c = kind :: tag :: (body ++ be16 check.toNat) →
        (check ≠ frameCheck (kind :: tag :: body) → one = fault .badCheck) ∧
        (check = frameCheck (kind :: tag :: body) →
          one = event (frameArrives kind tag body) (at' (.collecting [] false)))) ∧
      (b = 0xA6 → one = .next (at' (.collecting c true))) ∧
      (b ≠ 0xA5 → b ≠ 0xA6 → c.length < 84 → one = .next (at' (.collecting (c ++ [b]) false))) ∧
      (b ≠ 0xA5 → b ≠ 0xA6 → 84 ≤ c.length → one = fault .oversize) := by
  have heffect := byteEffect_collecting h b
  intro one at' fault
  refine ⟨?_, ?_, ?_, ?_, fun hd hm hc => ?_, fun hd hm hc => ?_⟩
  · rintro rfl rfl
    have hsame : byteEffect 0xA5 s = s := heffect.trans (setAssembler_same h)
    refine (exec_byte hs _).trans (congrArg _ ?_)
    rw [hsame, settle_of_closed hs.2]
  · rintro rfl hone hthree
    exact exec_byte_fault hs (heffect.trans ((if_pos rfl).trans (endContent_runt hone hthree s)))
  · rintro kind tag body check rfl rfl
    rw [if_pos rfl, endContent_frame] at heffect
    exact ⟨fun hcheck => exec_byte_fault hs (heffect.trans (if_neg hcheck)),
      fun hcheck => exec_byte_frame hs (heffect.trans (if_pos hcheck))⟩
  · rintro rfl
    exact exec_byte_assembles hs heffect
  · rw [if_neg hd, if_neg hm] at heffect
    exact exec_byte_assembles hs (heffect.trans (addContent_within hc b s))
  · rw [if_neg hd, if_neg hm] at heffect
    exact exec_byte_fault hs (heffect.trans (addContent_oversize hc b s))

/-- R147, R148: the byte after an escape, row by row. -/
theorem exec_byte_escaped {s : State} {c : List Byte} (hs : Resting s)
    (h : s.trk.assembler = .collecting c true) (b : Byte) :
    let one := exec (.discardedContent (.bytes [b])) s
    let at' (a : Assembler) : State := setAssembler a s
    let fault (f : ContentFault) := exec (.discardedContent (.fault f)) s
    (b = 0x85 → c.length < 84 → one = .next (at' (.collecting (c ++ [0xA5]) false))) ∧
      (b = 0x86 → c.length < 84 → one = .next (at' (.collecting (c ++ [0xA6]) false))) ∧
      (b = 0x85 ∨ b = 0x86 → 84 ≤ c.length → one = fault .oversize) ∧
      (b = 0xA5 → one = fault .badEscapeDelimiter) ∧
      (b ≠ 0x85 → b ≠ 0x86 → b ≠ 0xA5 → one = fault .badEscape) := by
  have heffect := byteEffect_escaped h b
  intro one at' fault
  refine ⟨?_, ?_, ?_, ?_, fun hd hm ha => ?_⟩
  · rintro rfl hc
    exact exec_byte_assembles hs (heffect.trans (addContent_within hc _ s))
  · rintro rfl hc
    exact exec_byte_assembles hs (heffect.trans (addContent_within hc _ s))
  · rintro (rfl | rfl) hc
    all_goals exact exec_byte_fault hs (heffect.trans (addContent_oversize hc _ s))
  · rintro rfl
    exact exec_byte_fault hs heffect
  · rw [if_neg hd, if_neg hm, if_neg ha] at heffect
    exact exec_byte_fault hs heffect

/-- Settles O39: the bytes of a whole content by induction on the content, single bytes by the state of the
assembler, and the bytes on TTXD by the kind of frame. -/
theorem frameBytesAreTheFrame : Obligations.FrameBytesAreTheFrame := by
  refine ⟨fun kind tag body s hs hclean => ?_, fun b s hs => ?_, fun s hs => ?_, fun f => ?_⟩
  · intro bytes empty
    have hframe : exec (.discardedContent (.bytes bytes)) s = event (frameArrives kind tag body) s :=
      exec_frameBytes hs hclean kind tag body
    refine ⟨fun _ => ⟨?_, ?_, fun _ _ => hframe⟩, fun hbody => ⟨?_, hframe, ?_⟩, fun content hcontent => ?_⟩
    · rintro rfl; exact hframe
    · rintro rfl rfl; exact hframe
    · refine ⟨_, exec_fault hs.1 .oversize, ?_⟩
      rw [hframe, event_frame hs.1 hclean, settle_oversizeFrame hs.2 kind tag hbody]
      rfl
    · rintro rfl; exact hframe
    · rw [exec_bytes hs, List.foldl_cons, receiveByte_opening hs.2 hclean, newContent_eq,
        received_content hs.2 content [] (by simpa using hcontent)]
      rfl
  · intro one at' empty fault
    refine ⟨exec_bytes hs [], ⟨_, exec_bytes hs [b], fun bs => ?_⟩, fun hhunt => ?_, fun c hc => ?_,
      fun c hc => exec_byte_escaped hs hc b⟩
    · exact (exec_bytes hs (b :: bs)).trans (exec_bytes (receiveByte_resting hs b) bs).symm
    · refine (exec_byte hs b).trans (congrArg _ ?_)
      rw [byteEffect_hunt hhunt]
      split
      · exact settle_setAssembler hs.2 _
      · exact settle_of_closed hs.2
    · obtain ⟨hnothing, hrunt, hcheck, hescape, hadds, hoversize⟩ := exec_byte_collecting hs hc b
      refine ⟨hnothing, hrunt, fun kind tag body check hb hbytes => ?_, hescape, hadds, hoversize⟩
      obtain ⟨hbad, hgood⟩ := hcheck kind tag body check hb hbytes
      refine ⟨hbad, fun hright _ => ⟨?_, ?_, fun _ _ => hgood hright⟩⟩
      · rintro rfl; exact hgood hright
      · rintro rfl rfl; exact hgood hright
  · exact ⟨_, exec_bytes hs [0xA5], receiveByte_delimiter_assembler s, fun kind tag body =>
      ⟨event_frame_afterDelimiter hs 0x01 tag body, event_frame_afterDelimiter hs 0x02 tag [],
        event_frame_afterDelimiter hs kind tag body⟩⟩
  · intro content escaped
    refine ⟨lineBytes_eq f ?_, fun sent => rfl, rfl⟩
    cases f <;> rfl

end Sys2Proof.Machine

/-! The sampling of TRXD (R146, R195), line errors and discarded contents (R148, R149). -/

namespace Sys2Proof.Machine

/-! ## Sampling points -/

/-- R189, R195: the periods of a trunk bit at each of the four rates. -/
theorem trunkBitPeriods_eq (t : TimeBase) : t.trunkBitPeriods = match t.rsel1, t.rsel0 with
    | false, false => 208
    | false, true => 139
    | true, false => 104
    | true, true => 35 := by
  unfold TimeBase.trunkBitPeriods TimeBase.refclkMHz TimeBase.trunkRate
  cases t.rsel1 <;> cases t.rsel0 <;> rfl

theorem two_le_trunkBitPeriods (t : TimeBase) : 2 ≤ t.trunkBitPeriods := by
  rw [trunkBitPeriods_eq]
  split <;> decide

/-- R195: the middle of a bit lies within the bit, whichever way it is rounded. -/
theorem trunkSample_within (t : TimeBase) (start k : Nat) :
    start + k * t.trunkBitPeriods < t.trunkSample start k ∧
      t.trunkSample start k < start + (k + 1) * t.trunkBitPeriods := by
  obtain ⟨hlow, hhigh⟩ := nearest_near ((2 * k + 1) * t.trunkBitPeriods) (den := 2) (by decide)
  have hperiods := two_le_trunkBitPeriods t
  have hmiddle : (2 * k + 1) * t.trunkBitPeriods = 2 * (k * t.trunkBitPeriods) + t.trunkBitPeriods := by ring
  have hnext : (k + 1) * t.trunkBitPeriods = k * t.trunkBitPeriods + t.trunkBitPeriods := Nat.succ_mul _ _
  rw [hmiddle] at hlow hhigh
  rw [TimeBase.trunkSample, hmiddle, hnext]
  omega

/-- R195: the samples before the start of bit `j` are those of the bits before it. -/
theorem beforeEdge_trunkSample (t : TimeBase) (start j k : Nat) :
    beforeEdge (start + j * t.trunkBitPeriods) (t.trunkSample start k) = decide (k < j) := by
  obtain ⟨hlow, hhigh⟩ := trunkSample_within t start k
  unfold beforeEdge
  by_cases h : k < j
  · have hbit : (k + 1) * t.trunkBitPeriods ≤ j * t.trunkBitPeriods := Nat.mul_le_mul_right _ h
    rw [decide_eq_true h, decide_eq_true (by omega), Bool.true_or]
  · have hbit : j * t.trunkBitPeriods ≤ k * t.trunkBitPeriods := Nat.mul_le_mul_right _ (Nat.le_of_not_lt h)
    rw [decide_eq_false h, decide_eq_false (by omega), beq_eq_false_iff_ne.mpr (by omega)]
    rfl

/-! ## Runs of samples -/

theorem takeSamples_receiving (due : Nat → Bool) (n start : Nat) (level : Bool) (bits : List Bool) (s : State) :
    takeSamples due (n + 1) (setSampler (.receiving start level bits) s) =
      if due (s.tbs.trunkSample start (bits.length + 1))
      then takeSamples due n (takeSample start level bits (setSampler (.receiving start level bits) s))
      else setSampler (.receiving start level bits) s := rfl

/-- R146: a data bit sampled. -/
theorem takeSample_data {start : Nat} {level : Bool} {bits : List Bool} (h : bits.length < 8) (x : TrunkSampler)
    (s : State) : takeSample start level bits (setSampler x s) =
      setSampler (.receiving start level (bits ++ [level])) s :=
  if_pos h

/-- R146: the stop bit sampled. -/
theorem takeSample_stop {start : Nat} {level : Bool} {bits : List Bool} (h : bits.length = 8) (x : TrunkSampler)
    (s : State) : takeSample start level bits (setSampler x s) =
      if level then byteEffect (serialByte bits) (setSampler .idle s)
      else takeLineError (setSampler .broken s) :=
  if_neg (by omega)

/-- R146, R195: the next `m` data bits are sampled while the line keeps its level, and the one after them is not
due. -/
theorem takeSamples_data {due : Nat → Bool} {start : Nat} {level : Bool} {s : State} (m n : Nat) (bits : List Bool)
    (hn : m ≤ n) (hbits : bits.length + m ≤ 8)
    (hdue : ∀ k, due (s.tbs.trunkSample start k) = decide (k ≤ bits.length + m)) :
    takeSamples due n (setSampler (.receiving start level bits) s) =
      setSampler (.receiving start level (bits ++ List.replicate m level)) s := by
  induction m generalizing n bits with
  | zero =>
    rw [List.replicate_zero, List.append_nil]
    cases n with
    | zero => rfl
    | succ n => rw [takeSamples_receiving, hdue, decide_eq_false (by omega), if_neg Bool.false_ne_true]
  | succ m ih =>
    obtain ⟨n, rfl⟩ := Nat.exists_eq_add_one_of_ne_zero (by omega : n ≠ 0)
    rw [takeSamples_receiving, hdue, decide_eq_true (by omega), if_pos rfl, takeSample_data (by omega),
      ih n (bits ++ [level]) (by omega) (by simp; omega) (fun k => by rw [hdue]; simp; omega),
      List.append_assoc, List.replicate_succ]
    rfl

/-- R146, R195: the rest of a byte is sampled while the line keeps its level, its stop bit included. -/
theorem takeSamples_stop {due : Nat → Bool} {start : Nat} {level : Bool} {s : State} (m n : Nat) (bits : List Bool)
    (hn : m < n) (hbits : bits.length + m = 8) (hdue : ∀ k, k ≤ 9 → due (s.tbs.trunkSample start k) = true) :
    takeSamples due n (setSampler (.receiving start level bits) s) =
      if level then byteEffect (serialByte (bits ++ List.replicate m level)) (setSampler .idle s)
      else takeLineError (setSampler .broken s) := by
  induction m generalizing n bits with
  | zero =>
    obtain ⟨n, rfl⟩ := Nat.exists_eq_add_one_of_ne_zero (by omega : n ≠ 0)
    rw [takeSamples_receiving, hdue _ (by omega), if_pos rfl, takeSample_stop (by omega), List.replicate_zero,
      List.append_nil]
    split
    · exact takeSamples_of_quiet _ _ (.inl (byteEffect_sampler _ _))
    · exact takeSamples_of_quiet _ _ (.inr (takeLineError_sampler _))
  | succ m ih =>
    obtain ⟨n, rfl⟩ := Nat.exists_eq_add_one_of_ne_zero (by omega : n ≠ 0)
    rw [takeSamples_receiving, hdue _ (by omega), if_pos rfl, takeSample_data (by omega),
      ih n (bits ++ [level]) (by omega) (by simp; omega), List.append_assoc, List.replicate_succ]
    rfl

/-! ## Edges of TRXD at a resting part -/

theorem resting_setSampler {s : State} (hs : Resting s) (x : TrunkSampler) : Resting (setSampler x s) := hs

theorem exec_trunkEdge {s : State} (hs : Running s) (rising : Bool) (time : Nat) :
    exec (.discardedContent (.edge rising time)) s = .next (settle (trunkEdge rising time s)) :=
  event_running hs (takeContent (.edge rising time))

theorem exec_trunkQuiet {s : State} (hs : Running s) (time : Nat) :
    exec (.discardedContent (.quiet time)) s =
      .next (settle (takeSamples (fun at' => decide (at' ≤ time)) 9 s)) :=
  event_running hs (takeContent (.quiet time))

/-- R146: an edge on a line that is in no byte. -/
theorem trunkEdge_idle {s : State} (h : s.trk.sampler = .idle) (rising : Bool) (time : Nat) :
    trunkEdge rising time s = if rising then s else setSampler (.receiving time false []) s := by
  simp only [trunkEdge, takeSamples_of_quiet _ _ (.inl h), h]

/-- R148: an edge on a line that has not returned to mark. -/
theorem trunkEdge_broken {s : State} (h : s.trk.sampler = .broken) (rising : Bool) (time : Nat) :
    trunkEdge rising time s = if rising then setSampler .idle s else s := by
  simp only [trunkEdge, takeSamples_of_quiet _ _ (.inr h), h]

/-- R146: an edge within a byte changes the level of the line. -/
theorem trunkEdge_within {s u : State} {start time : Nat} {last level : Bool} {bits : List Bool}
    (h : takeSamples (beforeEdge time) 9 s = setSampler (.receiving start last bits) u) :
    trunkEdge level time s = setSampler (.receiving start level bits) u := by
  simp only [trunkEdge, h, setSampler_trk_sampler, setSampler_setSampler]

/-- R146, R195: an edge at the start of bit `j` of a byte in progress: the bits before it that are still to be
sampled have the level before the edge. -/
theorem trunkEdge_receiving {s : State} {start j : Nat} {last level : Bool} {bits : List Bool}
    (hbits : bits.length + 1 ≤ j) (hj : j ≤ 9) :
    trunkEdge level (start + j * s.tbs.trunkBitPeriods) (setSampler (.receiving start last bits) s) =
      setSampler (.receiving start level (bits ++ List.replicate (j - 1 - bits.length) last)) s := by
  refine trunkEdge_within (takeSamples_data (j - 1 - bits.length) 9 bits (by omega) (by omega) fun k => ?_)
  rw [beforeEdge_trunkSample]
  exact decide_eq_decide.mpr (by omega)

/-! ## The ten bits of a byte -/

theorem flagBit_getLsbD (b : Byte) (i : Nat) : flagBit (b.getLsbD i) 1 = b.toNat / 2 ^ i % 2 := by
  rw [BitVec.getLsbD, Nat.testBit_eq_decide_div_mod_eq, flagBit]
  by_cases h : b.toNat / 2 ^ i % 2 = 1
  · rw [decide_eq_true h, h]; rfl
  · rw [decide_eq_false h, Nat.mod_two_ne_one.mp h]; rfl

/-- R146: the data bits of a byte, the least significant first, are that byte. -/
theorem serialByte_bits (b : Byte) : serialByte (byteBits b).reverse = b := by
  have hb := b.isLt
  apply BitVec.eq_of_toNat_eq
  simp only [serialByte, byteBits, List.reverse_cons, List.reverse_nil, List.nil_append, List.cons_append,
    List.foldr_cons, List.foldr_nil, byteOf_toNat, flagBit_getLsbD]
  omega

/-- What a byte comes to whose data bits and stop bit have been sampled (R146, R148). -/
def sampledByte (data : List Bool) (stop : Bool) (s : State) : State :=
  if stop then byteEffect (serialByte data) (setSampler .idle s) else takeLineError (setSampler .broken s)

/-- R146, R195: the edges of the bits from bit `j` on, and then a quiet line, complete the byte. Of the bits before
`j` those in `bits` have been sampled, and the others have the level `last`. -/
theorem carriesOut_levels {s : State} (hs : Resting s) {start time : Nat}
    (htime : start + 10 * s.tbs.trunkBitPeriods ≤ time) {data : List Bool} {stop : Bool}
    (ls : List Bool) (j : Nat) (last : Bool) (bits : List Bool) (hj : 1 ≤ j) (hlength : ls.length + j = 10)
    (hbits : bits.length ≤ j - 2)
    (hlevels : bits ++ List.replicate (j - 1 - bits.length) last ++ ls = data ++ [stop]) :
    carriesOut (trunkEdges s.tbs.trunkBitPeriods last (start + j * s.tbs.trunkBitPeriods) ls ++
        [.discardedContent (.quiet time)]) (setSampler (.receiving start last bits) s)
      (settle (sampledByte data stop s)) := by
  induction ls generalizing j last bits with
  | nil =>
    rw [List.length_nil, Nat.zero_add] at hlength
    subst hlength
    have hrest : List.replicate (10 - 1 - bits.length) last =
        List.replicate (8 - bits.length) last ++ [last] := by
      rw [← List.replicate_succ']
      congr 1
      omega
    rw [List.append_nil, hrest, ← List.append_assoc] at hlevels
    obtain ⟨hbefore, hlast⟩ := List.append_inj' hlevels rfl
    obtain rfl := List.singleton_inj.mp hlast
    have hsamples := takeSamples_stop (due := fun at' => decide (at' ≤ time)) (start := start) (level := last)
      (s := s) (8 - bits.length) 9 bits (by omega) (by omega) fun k hk => by
        obtain ⟨-, hhigh⟩ := trunkSample_within s.tbs start k
        have hend : (k + 1) * s.tbs.trunkBitPeriods ≤ 10 * s.tbs.trunkBitPeriods :=
          Nat.mul_le_mul_right _ (by omega)
        exact decide_eq_true (by omega)
    refine ⟨_, exec_trunkQuiet (resting_setSampler hs _).1 time, ?_⟩
    rw [hsamples, hbefore]
    rfl
  | cons l ls ih =>
    rw [List.length_cons] at hlength
    have hstart : start + j * s.tbs.trunkBitPeriods + s.tbs.trunkBitPeriods =
        start + (j + 1) * s.tbs.trunkBitPeriods := by rw [Nat.succ_mul, Nat.add_assoc]
    rw [trunkEdges, hstart]
    by_cases hl : l = last
    · subst hl
      rw [if_pos rfl, List.nil_append]
      refine ih (j + 1) l bits (by omega) (by omega) (by omega) ?_
      rw [← hlevels, show j + 1 - 1 - bits.length = j - 1 - bits.length + 1 by omega, List.replicate_succ']
      simp
    · rw [if_neg hl]
      refine ⟨_, exec_trunkEdge (resting_setSampler hs _).1 _ _, ?_⟩
      rw [trunkEdge_receiving (by omega) (by omega), settle_of_closed (resting_setSampler hs _).2]
      have hsampled : (bits ++ List.replicate (j - 1 - bits.length) last).length = j - 1 := by simp; omega
      refine ih (j + 1) l _ (by omega) (by omega) (by omega) ?_
      rw [← hlevels, hsampled, show j + 1 - 1 - (j - 1) = 1 by omega]
      simp

/-- R146, R195: the levels of a byte on an idle line come to its samples. -/
theorem carriesOut_trunkByte {s : State} (hs : Resting s) (hidle : s.trk.sampler = .idle) {start time : Nat}
    (htime : start + 10 * s.tbs.trunkBitPeriods ≤ time) {data : List Bool} (hdata : data.length = 8) (stop : Bool) :
    carriesOut (trunkEdges s.tbs.trunkBitPeriods true start ([false] ++ data ++ [stop]) ++
      [.discardedContent (.quiet time)]) s (settle (sampledByte data stop s)) := by
  refine ⟨_, exec_trunkEdge hs.1 false start, ?_⟩
  rw [trunkEdge_idle hidle, if_neg Bool.false_ne_true, settle_of_closed (resting_setSampler hs _).2]
  have hrest := carriesOut_levels hs htime (data ++ [stop]) 1 false [] (by omega)
    (by rw [List.length_append, hdata]; rfl) (Nat.zero_le _) rfl
  rwa [Nat.one_mul] at hrest

/-! ## Line errors -/

/-- R135: a raise does not depend on the trunk receiver. -/
theorem raise_setTrunkRx (c : Cause) (x : TrunkSampler) (a : Assembler) (s : State) :
    raise c (setTrunkRx x a s) = setTrunkRx x a (raise c s) := by
  cases h : (causeState s c).occurrence with
  | some o => rw [raise_of_pending h, raise_of_pending (s := setTrunkRx x a s) h]; rfl
  | none =>
    rw [raise_of_clear h, raise_of_clear (s := setTrunkRx x a s) h]
    have hjoin : ∀ u, joinNotice c (setTrunkRx x a u) = setTrunkRx x a (joinNotice c u) := by
      intro u
      have hdue : noticeDue (setTrunkRx x a u) c = noticeDue u c := rfl
      unfold joinNotice
      rw [hdue]
      split <;> rfl
    exact congrArg decideAttn
      (hjoin (setCause c { causeState s c with occurrence := some { count := 1, first := s.now } } s))

theorem takeLineError_keepsRequests (s : State) : KeepsRequests s (takeLineError s) := by
  unfold takeLineError
  rw [raise_frame]
  exact ⟨rfl, rfl, rfl, rfl, rfl, rfl⟩

/-- R146, R148: a line error on the way to a broken line is that line error, and the line is broken. -/
theorem settle_lineError_broken {s : State} (hs : Settled s) :
    settle (takeLineError (setSampler .broken s)) = setSampler .broken (settle (takeLineError s)) := by
  have hhunt : (settle (takeLineError s)).trk.assembler = .hunt := by
    rw [(settle_trunkRx _).1, takeLineError, raise_frame]
  calc settle (takeLineError (setSampler .broken s))
      = settle (setTrunkRx .broken .hunt (takeLineError s)) :=
        congrArg settle (raise_setTrunkRx .trunkRxError .broken .hunt
          { s with trk.assembler := .hunt, trk.counters.lineErrors := bump s.trk.counters.lineErrors })
    _ = setTrunkRx .broken .hunt (settle (takeLineError s)) :=
        settle_setTrunkRx hs (takeLineError_keepsRequests s) _ _
    _ = setSampler .broken (settle (takeLineError s)) := by rw [← hhunt]; rfl

/-! ## Frames of other kinds -/

/-- R149: a frame of another kind, or an ACK with a body. -/
theorem receiveFrame_otherKind {kind : Byte} {body : List Byte} (hbody : body.length ≤ 80) (hrequest : kind ≠ 0x01)
    (hack : kind ≠ 0x02 ∨ body ≠ []) (tag : Byte) (s : State) :
    receiveFrame kind tag body s = discardKind (newContent s) := by
  rw [receiveFrame, if_neg (Nat.not_lt.mpr hbody)]
  by_cases hkind : kind = 0x02
  · rw [if_pos hkind]
    exact if_neg (by simpa using hack.resolve_left (not_not.mpr hkind))
  · rw [if_neg hkind, if_neg hrequest]

/-- Settles O38: the faults by their rows, and the levels of a byte by induction on its bits. -/
theorem discardedOnReception : Obligations.DiscardedOnReception := by
  intro s hrun empty
  refine ⟨event_running hrun _, exec_fault hrun _, exec_fault hrun _, exec_fault hrun _, exec_fault hrun _,
    exec_fault hrun _, fun kind tag body hrequest hack hbody hs hclean => ?_, fun hs time => ⟨fun hidle => ?_,
    fun hbroken => ?_⟩, fun hs hidle b start time => ?_⟩
  · refine (event_frame hrun hclean kind tag body).trans (congrArg _ ?_)
    rw [receiveFrame_otherKind hbody hrequest hack]
    exact settle_of_closed (s := discardKind (newContent s)) hs
  · refine ⟨?_, ?_, ?_⟩
    · rw [exec_trunkEdge hrun, trunkEdge_idle hidle]
      exact congrArg _ (settle_of_closed (s := setSampler _ s) hs)
    · rw [exec_trunkEdge hrun, trunkEdge_idle hidle, if_pos rfl, settle_of_closed hs]
    · rw [exec_trunkQuiet hrun, takeSamples_of_quiet _ _ (.inl hidle), settle_of_closed hs]
  · refine ⟨?_, ?_, ?_⟩
    · rw [exec_trunkEdge hrun, trunkEdge_broken hbroken]
      exact congrArg _ (settle_of_closed (s := setSampler .idle s) hs)
    · rw [exec_trunkEdge hrun, trunkEdge_broken hbroken, if_neg Bool.false_ne_true, settle_of_closed hs]
    · rw [exec_trunkQuiet hrun, takeSamples_of_quiet _ _ (.inr hbroken), settle_of_closed hs]
  · intro period data cmds htime
    have hperiod : period = s.tbs.trunkBitPeriods := (trunkBitPeriods_eq s.tbs).symm
    have hcarries : ∀ stop, carriesOut (cmds stop) s (settle (sampledByte data stop s)) := by
      intro stop
      show carriesOut (trunkEdges period true start ([false] ++ data ++ [stop]) ++ _) s _
      rw [hperiod] at htime ⊢
      exact carriesOut_trunkByte ⟨hrun, hs⟩ hidle htime rfl stop
    refine ⟨⟨_, exec_byte ⟨hrun, hs⟩ b, ?_⟩, ⟨_, event_running hrun _, ?_⟩⟩
    · have hbyte : sampledByte data true s = byteEffect b s := by
        have hsame : setSampler .idle s = s := by rw [← hidle]; rfl
        rw [sampledByte, if_pos rfl, hsame, show serialByte data = b from serialByte_bits b]
      rw [← hbyte]
      exact hcarries true
    · have hbroken : settle (sampledByte data false s) = setSampler .broken (settle (takeLineError s)) :=
        settle_lineError_broken hs
      show carriesOut (cmds false) s (setSampler .broken (settle (takeLineError s)))
      rw [← hbroken]
      exact hcarries false

end Sys2Proof.Machine

/-! CLOSE-SESSION, WARM-RESTART and GET-STATUS (section 9.2). -/

namespace Sys2Proof.Machine

/-! ## Requests whose response the engine waits for -/

theorem carryOut_closeSession (args : List Byte) (s : State) : carryOut 0x11 args s = reqCloseSession args s := rfl

theorem carryOut_warmRestart (args : List Byte) (s : State) : carryOut 0x13 args s = reqWarmRestart args s := rfl

/-- R158, R166, R167: a CLOSE-SESSION or WARM-RESTART that is taken at once in OPEN and carried out. -/
theorem request_concludes {s t : State} {tag code : Byte} (h : TakesAtOnce s tag code)
    (hopen : s.trk.session ≠ .closed) (hcode : code = 0x11 ∨ code = 0x13)
    (hcarry : carryOut code [] (counted s) = done [] t) :
    event (requestArrives tag code []) s = .next (answered (replyWith tag code .ok []) true t) := by
  have hdefined : definedCodes.contains code = true := by
    rcases hcode with rfl | rfl <;> decide
  have hconcludes : concludesSession code .ok = true := by
    rw [concludesSession_eq]
    exact decide_eq_true ⟨hcode, rfl⟩
  have hanswered := requestArrives_atOnce h (Nat.zero_le _) ((judgeRequest_open hopen hdefined []).trans hcarry)
  rwa [hconcludes] at hanswered

/-! ## The results of GET-STATUS -/

theorem carryOut_getStatus (args : List Byte) (s : State) : carryOut 0x12 args s = reqGetStatus args s := rfl

theorem pendingCause_counted (s : State) (c : Cause) : pendingCause (counted s) c = pendingCause s c := by
  rw [pendingCause, causeState_counted, pendingCause]

theorem countSlots_counted (s : State) (p : SlotState → Bool) : countSlots (counted s) p = countSlots s p := by
  simp only [countSlots, slotState_counted]

theorem Session.code_eq_isOpen (x : Session) : x.code = yesNo x.isOpen := by cases x <;> rfl

theorem Session.code_eq_ite (x : Session) : x.code = if x = .closed then 0x00 else 0x01 := by
  cases x <;> rfl

theorem StreamState.code_eq_ite (x : StreamState) : x.code = if x = .running then 0x00 else 0x01 := by
  cases x <;> rfl

/-- R171: the count of a valid frame leaves what GET-STATUS reports. -/
theorem statusResults_counted (s : State) : statusResults (counted s) = statusResults s := by
  simp only [statusResults, pendingByte, Session.code_eq_isOpen, counted_isOpen, counted_dst, counted_stab,
    counted_rpf, countSlots_counted, pendingCause_counted, now_eq, counted_tbs]

/-- R151, R171: GET-STATUS is carried out in either session state and changes nothing. -/
theorem getStatus_carriedOut {s : State} {tag : Byte} (h : TakesAtOnce s tag 0x12) :
    exec (.getStatus tag) s = .next (carriedOut tag 0x12 (statusResults s) (counted s)) := by
  have hjudge : judgeRequest 0x12 [] (counted s) = done (statusResults (counted s)) (counted s) :=
    (judgeRequest_passed (by decide) (.inr (.inr rfl)) []).trans (carryOut_getStatus [] _)
  rw [statusResults_counted] at hjudge
  have hanswered := requestArrives_atOnce h (Nat.zero_le _) hjudge
  rw [concludesSession_eq] at hanswered
  exact hanswered

/-- R171: the set of pending causes as a sum over the causes. -/
theorem pendingByte_eq_sum (s : State) : pendingByte s =
    byteOf ((allCauses.map fun c => if pendingCause s c then 2 ^ (c.number - 1) else 0)).sum := by
  rw [List.sum_eq_foldl, List.foldl_map]
  rfl

/-- Settles O43: the two requests that conclude change the engine's state alone, and GET-STATUS reads the part. -/
theorem closeRestartAndStatus : Obligations.CloseRestartAndStatus := by
  intro tag s n
  have hn : ∀ p, n p = byteOf (countSlots s p) := fun _ => rfl
  clear_value n
  refine ⟨fun h hopen => ?_, fun h hopen => ?_, fun h => ?_⟩
  · exact request_concludes h hopen (.inl rfl) (carryOut_closeSession [] _)
  · exact request_concludes h hopen (.inr rfl) (carryOut_warmRestart [] _)
  · refine (getStatus_carriedOut h).trans
      (congrArg (fun bs => Host.Outcome.next (carriedOut tag 0x12 bs (counted s))) ?_)
    have hslots : ∀ {p q : SlotState → Bool}, (∀ st, p st = q st) → byteOf (countSlots s p) = n q := by
      intro p q h
      rw [hn, funext h]
    have htelegrams : s.dst.telegramCount = (s.dst.items.filter Item.isTelegram).length :=
      List.countP_eq_length_filter
    have houtcomes : s.dst.outcomeCount = (s.dst.items.filter (fun i => !i.isTelegram)).length :=
      List.countP_eq_length_filter
    simp only [statusResults, List.cons_append, List.nil_append, List.cons.injEq, true_and, and_true]
    refine ⟨Session.code_eq_ite _, StreamState.code_eq_ite _, rfl, hslots ?_, hslots ?_, hslots ?_, hslots ?_,
      hslots ?_, hslots ?_, congrArg byteOf htelegrams, congrArg byteOf houtcomes, pendingByte_eq_sum s⟩ <;>
      (intro st; cases st <;> rfl)

end Sys2Proof.Machine

/-! SET-PARAMETER and GET-PARAMETER (section 9.4), and the table of the thirty parameters (R176, R207). -/

namespace Sys2Proof.Machine

/-! ## The table of the parameters -/

/-- R207: the least value in a parameter's range. -/
def Param.lowest : Param → Nat
  | .unknownWindowMs | .rxBitTimeUs => 100
  | .rxPreambleMin | .txPreambleBits => 8
  | .rxMaxLength => 5
  | .txTickUs | .ackTimeoutMs => 20
  | .txHalfBitTicks | .stallLimit | .renotifyS | .attentionLevel | .errorBurstLimit => 1
  | .unknownPolicy | .rxCode | .rxSync | .rxCheckPoly | .rxCheckInit | .rxEnableA | .rxEnableB | .txCode | .txSync
  | .sessionIdleS | .level _ => 0

/-- R207: the greatest value in a parameter's range. -/
def Param.highest : Param → Nat
  | .unknownPolicy | .rxCode | .txCode => 2
  | .unknownWindowMs => 60000
  | .rxBitTimeUs => 2000
  | .rxPreambleMin => 32
  | .rxSync | .rxCheckPoly | .rxCheckInit | .txSync => 65535
  | .rxMaxLength => 38
  | .rxEnableA | .rxEnableB => 1
  | .txTickUs => 1000
  | .txHalfBitTicks => 16
  | .txPreambleBits => 64
  | .ackTimeoutMs => 5000
  | .stallLimit => 15
  | .sessionIdleS => 120
  | .renotifyS => 60
  | .attentionLevel | .level _ => 3
  | .errorBurstLimit => 255

/-- R176, R207: a range is what lies between its ends, without 1 for TX_CODE. -/
theorem Param.inRange_iff (p : Param) (v : Nat) :
    p.inRange v = true ↔ p.lowest ≤ v ∧ v ≤ p.highest ∧ ¬ (p = .txCode ∧ v = 1) := by
  cases p
  case txCode =>
    simp [inRange, lowest, highest]
    omega
  all_goals simp [inRange, lowest, highest]

theorem Param.width_eq (p : Param) : p.width = 1 ∨ p.width = 2 := by
  cases p <;> simp [width]

/-- R207: a value in range fits the parameter's width. -/
theorem Param.highest_lt (p : Param) : p.highest < 256 ^ p.width := by
  cases p <;> simp [highest, width]

theorem mem_allParams (p : Param) : p ∈ allParams := by
  cases p
  case level c => exact List.mem_append_right _ (List.mem_map_of_mem (mem_allCauses c))
  all_goals simp [allParams]

theorem paramOf_number (p : Param) : paramOf p.number = some p := by
  cases p
  case level c => cases c <;> decide
  all_goals decide

theorem paramOf_undefined {n : Byte} (h : ∀ p : Param, p.number ≠ n) : paramOf n = none :=
  List.find?_eq_none.mpr fun p _ => by simpa using h p

/-! ## Values in their width -/

theorem Param.encode_length (p : Param) (v : Nat) : (p.encode v).length = p.width := by
  unfold encode
  rcases p.width_eq with h | h <;> rw [h] <;> rfl

/-- R207: a value in range is read back from its bytes. -/
theorem Param.numOf_encode {p : Param} {v : Nat} (h : p.inRange v = true) : numOf (p.encode v) = v := by
  obtain ⟨-, hhigh, -⟩ := (p.inRange_iff v).mp h
  have hfits := Nat.lt_of_le_of_lt hhigh p.highest_lt
  unfold encode
  rcases p.width_eq with hw | hw <;> rw [hw] at hfits ⊢
  · simp only [numOf, OfNat.one_ne_ofNat, if_false, List.foldl_cons, List.foldl_nil, byteOf_toNat]
    omega
  · simp only [numOf, if_true, be16, List.foldl_cons, List.foldl_nil, byteOf_toNat]
    omega

/-! ## What a parameter reads once it is set -/

theorem policyOf_num {v : Nat} (h : v ≤ 2) : (policyOf v).num = v := by
  interval_cases v <;> rfl

theorem lineCodeOf_num {v : Nat} (h : v ≤ 2) : (lineCodeOf v).num = v := by
  interval_cases v <;> rfl

theorem txCodeOf_num {v : Nat} (h : v = 0 ∨ v = 2) : (txCodeOf v).num = v := by
  rcases h with rfl | rfl <;> rfl

theorem flagBit_eq_one {v : Nat} (h : v ≤ 1) : flagBit (v == 1) 1 = v := by
  interval_cases v <;> rfl

theorem word16_ofNat_toNat {v : Nat} (h : v ≤ 0xFFFF) : (BitVec.ofNat 16 v).toNat = v :=
  (BitVec.toNat_ofNat v 16).trans (Nat.mod_eq_of_lt (Nat.lt_succ_of_le h))

/-- R38, R39: an enable is set, and its receiver follows. -/
theorem setEnable_A_eq (on : Bool) (s : State) :
    ∃ r, setEnable .A on s = { s with profile.enableA := on, fra := r } := by
  cases on
  · exact ⟨_, disableReceiver_eq .A _⟩
  · exact ⟨_, enableReceiver_eq .A _⟩

theorem setEnable_B_eq (on : Bool) (s : State) :
    ∃ r, setEnable .B on s = { s with profile.enableB := on, frb := r } := by
  cases on
  · exact ⟨_, disableReceiver_eq .B _⟩
  · exact ⟨_, enableReceiver_eq .B _⟩

/-- R139: the level of a cause is set and the others stay. -/
theorem level_setLevel (c c' : Cause) (v : Nat) (s : State) :
    (causeState (setLevel c v s) c').level = if c' = c then v else (causeState s c').level := by
  rw [setLevel_eq]
  refine (congrArg CauseState.level (causeState_setCause c c' _ s)).trans ?_
  split <;> rfl

/-- R175: a parameter set to a value in its range reads as that value. -/
theorem getParam_setParam_self {p : Param} {v : Nat} (h : p.inRange v = true) (s : State) :
    getParam p (setParam p v s) = v := by
  cases p
  case unknownPolicy => exact policyOf_num (of_decide_eq_true h)
  case rxCode => exact lineCodeOf_num (of_decide_eq_true h)
  case txCode => exact txCodeOf_num (of_decide_eq_true h)
  case rxSync | rxCheckPoly | rxCheckInit | txSync => exact word16_ofNat_toNat (of_decide_eq_true h)
  case rxEnableA =>
    obtain ⟨_, hset⟩ := setEnable_A_eq (v == 1) s
    simp only [setParam, hset, getParam]
    exact flagBit_eq_one (of_decide_eq_true h)
  case rxEnableB =>
    obtain ⟨_, hset⟩ := setEnable_B_eq (v == 1) s
    simp only [setParam, hset, getParam]
    exact flagBit_eq_one (of_decide_eq_true h)
  case sessionIdleS =>
    obtain ⟨_, hset⟩ := restartIdle_frame { s with trk.sessionIdleS := v }
    simp only [setParam, hset, getParam]
  case level c => exact (level_setLevel c c v s).trans (if_pos rfl)
  all_goals rfl

/-- R175: setting a parameter leaves the value of every other. -/
theorem getParam_setParam_other {p q : Param} (hne : q ≠ p) (v : Nat) (s : State) :
    getParam q (setParam p v s) = getParam q s := by
  cases p
  case level c =>
    cases q
    case level c' =>
      exact (level_setLevel c c' v s).trans (if_neg fun hc => hne (congrArg Param.level hc))
    all_goals
      simp only [setParam, setLevel_eq]
      rfl
  case' rxEnableA =>
    obtain ⟨_, hset⟩ := setEnable_A_eq (v == 1) s
    simp only [setParam, hset]
  case' rxEnableB =>
    obtain ⟨_, hset⟩ := setEnable_B_eq (v == 1) s
    simp only [setParam, hset]
  case' sessionIdleS =>
    obtain ⟨_, hset⟩ := restartIdle_frame { s with trk.sessionIdleS := v }
    simp only [setParam, hset]
  all_goals
    cases q <;> try rfl
    exact absurd rfl hne

/-! ## The two requests -/

theorem carryOut_setParameter (args : List Byte) (s : State) : carryOut 0x20 args s = reqSetParameter args s := rfl

theorem carryOut_getParameter (args : List Byte) (s : State) : carryOut 0x21 args s = reqGetParameter args s := rfl

/-- The count of a valid frame leaves every parameter. -/
theorem getParam_counted (p : Param) (s : State) : getParam p (counted s) = getParam p s := by
  obtain ⟨_, h⟩ := counted_frame s
  rw [h]
  cases p <;> rfl

/-- R175: SET-PARAMETER with a value in the parameter's width and range. -/
theorem reqSetParameter_set {p : Param} {v : Nat} (s : State) (h : p.inRange v = true) :
    reqSetParameter (p.number :: p.encode v) s =
      done ([p.number] ++ p.encode (getParam p s) ++ p.encode v) (setParam p v s) := by
  simp only [reqSetParameter, paramOf_number, Param.encode_length, Param.numOf_encode h, h,
    getParam_setParam_self h, ne_eq, not_true_eq_false, if_false, Bool.not_true, Bool.false_eq_true]

theorem reqSetParameter_undefined {n : Byte} (value : List Byte) (s : State) (h : paramOf n = none) :
    reqSetParameter (n :: value) s = refuse .badRequest s := by
  simp only [reqSetParameter, h]

theorem reqSetParameter_wrongWidth {p : Param} {value : List Byte} (s : State) (h : value.length ≠ p.width) :
    reqSetParameter (p.number :: value) s = refuse .badFormat s := by
  simp only [reqSetParameter, paramOf_number, if_pos h]

theorem reqSetParameter_outOfRange {p : Param} {value : List Byte} (s : State) (hw : value.length = p.width)
    (h : p.inRange (numOf value) = false) : reqSetParameter (p.number :: value) s = refuse .badValue s := by
  simp only [reqSetParameter, paramOf_number, hw, h, ne_eq, not_true_eq_false, if_false, Bool.not_false, if_true]

theorem reqGetParameter_read (p : Param) (s : State) :
    reqGetParameter [p.number] s = done ([p.number] ++ p.encode (getParam p s)) s := by
  simp only [reqGetParameter, paramOf_number]

theorem reqGetParameter_undefined {n : Byte} (s : State) (h : paramOf n = none) :
    reqGetParameter [n] s = refuse .badRequest s := by
  simp only [reqGetParameter, h]

/-- R175: SET-PARAMETER answers the value before and the value now. -/
theorem setParameter_carriedOut {tag : Byte} {p : Param} {v : Nat} {s : State} (h : TakesAtOnce s tag 0x20)
    (hopen : s.trk.session ≠ .closed) (hv : p.inRange v = true) :
    exec (.setParameter tag p.number (p.encode v)) s = .next (carriedOut tag 0x20
      ([p.number] ++ p.encode (getParam p s) ++ p.encode v) (setParam p v (counted s))) := by
  have hlength : (p.number :: p.encode v).length ≤ 79 := by
    rw [List.length_cons, p.encode_length]
    rcases p.width_eq with hw | hw <;> omega
  refine request_carriedOut h hopen (by decide) hlength ((carryOut_setParameter _ _).trans ?_)
  rw [reqSetParameter_set _ hv, getParam_counted]

/-- R167, R168: a SET-PARAMETER that is refused. -/
theorem setParameter_refused {tag n : Byte} {value : List Byte} {st : Status} {s : State}
    (h : TakesAtOnce s tag 0x20) (hopen : s.trk.session ≠ .closed) (hvalue : value.length ≤ 78)
    (hrefuse : reqSetParameter (n :: value) (counted s) = refuse st (counted s)) :
    exec (.setParameter tag n value) s = .next (refusedWith tag 0x20 st s) :=
  request_refused h hopen (by decide) (Nat.succ_le_succ hvalue) ((carryOut_setParameter _ _).trans hrefuse)

/-- R176: GET-PARAMETER answers the present value. -/
theorem getParameter_carriedOut {tag : Byte} {s : State} (h : TakesAtOnce s tag 0x21)
    (hopen : s.trk.session ≠ .closed) (p : Param) :
    exec (.getParameter tag p.number) s = .next (carriedOut tag 0x21
      ([p.number] ++ p.encode (getParam p s)) (counted s)) := by
  refine request_carriedOut h hopen (by decide) (by simp) ((carryOut_getParameter _ _).trans ?_)
  rw [reqGetParameter_read, getParam_counted]

/-- Settles O44: number, width and range are read back in this order, and each parameter has its own field. -/
theorem parametersAreSetAndRead : Obligations.ParametersAreSetAndRead := by
  refine ⟨fun tag p v s h hopen hv => setParameter_carriedOut h hopen hv,
    fun p v s hv => ⟨getParam_setParam_self hv s, fun q hne => getParam_setParam_other hne v s⟩,
    fun tag p s h hopen => getParameter_carriedOut h hopen p, fun tag n s hn hopen => ⟨fun h => ?_, fun h => ?_⟩,
    fun tag p value s h hopen hvalue => ⟨fun hwidth => ?_, fun hwidth hrange => ?_⟩, ?_, fun v s => ?_⟩
  · exact request_refused h hopen (by decide) (by simp) ((carryOut_getParameter _ _).trans
      (reqGetParameter_undefined _ (paramOf_undefined hn)))
  · exact fun value hvalue => setParameter_refused h hopen hvalue
      (reqSetParameter_undefined value _ (paramOf_undefined hn))
  · exact setParameter_refused h hopen hvalue (reqSetParameter_wrongWidth _ hwidth)
  · exact setParameter_refused h hopen hvalue (reqSetParameter_outOfRange _ hwidth hrange)
  · intro table
    have htable : table = allParams.map fun p => (p, p.number, p.width, p.lowest, p.highest) := rfl
    refine ⟨fun p => mem_allParams p, fun p n w lo hi hmem => ?_⟩
    rw [htable] at hmem
    obtain ⟨q, -, hq⟩ := List.mem_map.mp hmem
    cases hq
    exact ⟨rfl, rfl, p.inRange_iff⟩
  · exact ⟨rfl, rfl, rfl, rfl, rfl, rfl, rfl, rfl, rfl, rfl, rfl, rfl, rfl, rfl, rfl, rfl, rfl, rfl, rfl, rfl, rfl, rfl,
      rfl⟩

end Sys2Proof.Machine

/-! Part time and its deadlines (R191, R192), a stopped REFCLK (R190), and what holds after a full reset (R197). -/

namespace Sys2Proof.Machine

/-! ## A stopped REFCLK -/

/-- R190: that REFCLK stops says nothing new to a part whose REFCLK is stopped. -/
theorem stopRefclk_of_stopped {s : State} (h : s.tbs.refclkRunning = false) : stopRefclk s = s := by
  unfold stopRefclk
  rw [← h]

/-- R190: while REFCLK is stopped, only FULL_RESET and the word that REFCLK runs again act on a part that is not
held. -/
theorem exec_stopped {c : Instr} {s : State} (hstop : s.tbs.refclkRunning = false) (hs : s.inReset = false)
    (hreset : c ≠ .fullReset) (hclock : ∀ ch, c ≠ .cellDecoded ch (.refclk true)) : exec c s = .next s := by
  cases c
  case fullReset => exact absurd rfl hreset
  case fullResetEnd a b =>
    have hruns : ¬ s.tbs.refclkRunning = true := Bool.eq_false_iff.mp hstop
    have hheld : ¬ s.inReset = true := Bool.eq_false_iff.mp hs
    exact congrArg Host.Outcome.next ((if_neg hruns).trans (if_neg hheld))
  case cellDecoded ch input =>
    cases input
    case refclk running =>
      cases running with
      | true => exact absurd rfl (hclock ch)
      | false => exact congrArg Host.Outcome.next (stopRefclk_of_stopped hstop)
    all_goals apply event_stopped hstop
  all_goals apply event_stopped hstop

/-- R190: REFCLK runs again at a part whose last event had come to its end, and the part goes on from there. -/
theorem startRefclk_resting {s : State} (h : Resting s) (running : Bool) :
    startRefclk { s with tbs.refclkRunning := running } = s := by
  obtain ⟨⟨hs, hruns⟩, hsettled⟩ := h
  have hgoes : { s with tbs.refclkRunning := true } = s := by rw [← hruns]
  calc startRefclk { s with tbs.refclkRunning := running }
      = settle { s with tbs.refclkRunning := true } :=
        startRefclk_running (s := { s with tbs.refclkRunning := running }) hs
    _ = settle s := congrArg settle hgoes
    _ = s := settle_of_closed hsettled

/-! ## Part time and deadlines -/

/-- R191: PART_TIME_ADVANCE moves nothing that the closing of an event looks at. -/
theorem exec_partTimeAdvance {s : State} (h : Resting s) :
    exec .partTimeAdvance s = .next { s with tbs.partTime := s.tbs.partTime + 1 } := by
  show event (fun u => { u with tbs.partTime := u.tbs.partTime + 1 }) s = _
  rw [event_running h.1]
  exact congrArg Host.Outcome.next (settle_of_settled h.2 rfl rfl rfl)

/-- The distance between two part times counted from the same one does not depend on it, so not on a wrap. -/
theorem after_sub_after (t : PartTime) (k ms : Nat) :
    after t k - after t ms = BitVec.ofNat 32 k - BitVec.ofNat 32 ms := by
  unfold after
  bv_omega

/-- R192: two spans below 2^31 are told apart by the half of the circle in which their difference lies. -/
theorem reached_after {ms k : Nat} (t : PartTime) (hms : ms < 2147483648) (hk : k < 2147483648) :
    reached (after t k) (after t ms) = decide (ms ≤ k) := by
  unfold reached
  rw [after_sub_after, decide_eq_decide, BitVec.toNat_sub, BitVec.toNat_ofNat, BitVec.toNat_ofNat]
  omega

/-- Settles O4: a stopped part takes no event, a resting one has nothing to close, and deadlines are read mod 2^32. -/
theorem partTimeAndDeadlines : Obligations.PartTimeAndDeadlines := by
  refine ⟨fun _ _ => exec_stopped, fun _ _ s h => ⟨?_, _, rfl, rfl, ?_⟩, fun _ => exec_partTimeAdvance,
    fun t _ _ => reached_after t⟩
  · exact congrArg Host.Outcome.next (startRefclk_resting h s.tbs.refclkRunning)
  · exact congrArg Host.Outcome.next (startRefclk_resting h false)

/-! ## The state after a full reset -/

/-- R196, R197: the part takes events again, and none of them is under way. -/
theorem afterReset_resting (a b : Bool) (queue : List Instr) : Resting (State.afterReset a b queue) :=
  ⟨⟨rfl, rfl⟩, afterReset_settled a b queue⟩

/-- R144: RESTARTED, at its default level, leaves ATTN deasserted. -/
theorem afterReset_attnInv (a b : Bool) (queue : List Instr) : AttnInv (State.afterReset a b queue) :=
  (attnInv_of_running rfl).mpr (attnDecided_survives.resets a b queue)

/-- R197: every parameter's default lies in its range. -/
theorem afterReset_paramInv (a b : Bool) (queue : List Instr) : ParamInv (State.afterReset a b queue) :=
  paramInv_iff.mpr (paramsSound_survives.resets a b queue)

/-- Settles O55, block by block. -/
theorem resetMeetsTheInvariants : Obligations.ResetMeetsTheInvariants :=
  fun a b queue => ⟨afterReset_resting a b queue, afterReset_attnInv a b queue, afterReset_paramInv a b queue,
    afterReset_streamInv a b queue, afterReset_trunkInv a b queue, afterReset_tableInv a b queue,
    afterReset_slotInv a b queue⟩

end Sys2Proof.Machine

/-! The step function and the queue (log entry 1): a waiting command runs before any tick, `step_noCommand` is the
other case. -/

namespace Sys2Proof.Machine

theorem step_command {c : Instr} {rest : List Instr} {s : State} (h : s.pending = c :: rest) :
    step s = exec c { s with pending := rest } := by
  simp only [step, h]

/-- Settles O1: the queue's shape selects the branch of the step. -/
theorem stepRunsFrontCommand : Obligations.StepRunsFrontCommand :=
  fun _ _ _ => step_command

end Sys2Proof.Machine
